-- ==== Sys2Proof/Word.lean ====
section
/-! DEFINITION. The word types of the FM628: bytes, 16-bit words, and sets of stations as the line and the host see them. -/

namespace Sys2Proof

/-- One byte on the Pass Link or the Local Port. -/
abbrev Byte := BitVec 8

/-- A 16-bit word: digests, notice sets, lot numbers as bits. -/
abbrev Word16 := BitVec 16

/-- A set of stations 1–12, station k in bit k − 1 (Formats, Pins and Ratings). -/
abbrev StationSet := BitVec 12

end Sys2Proof
end

