-- ==== Sys2Proof/Syntax.lean ====
section
/-! DEFINITION. The commands of the FM628: one constructor of Instr per row of spec/opcode_table.json, with the row's operands at the widths of the line and of the Local Port. -/

namespace Sys2Proof

/-- The nine claim rows (Claims on the Pass; row codes 1–9 of Formats, Pins and Ratings). -/
inductive Row where
  | level1 | level2 | level3 | level4 | level5 | level6 | chute1 | chute2 | access
  deriving DecidableEq, Repr

/-- A catch-up piece as it stands in a 28-byte STATUS frame: header and 14 content bytes (R105, Formats). -/
structure Piece where
  image : BitVec 8
  index : BitVec 8
  receivers : StationSet
  remaining : BitVec 8
  content : BitVec 112
  deriving DecidableEq, Repr

/-- The fields of a STATUS frame (R70 and the STATUS table of Formats), `piece` present when the length is 28. -/
structure StatusFields where
  link : BitVec 3
  grade : BitVec 2
  hold : Bool
  frozen : Bool
  role : BitVec 2
  place : BitVec 3
  digest : Word16
  config : Word16
  present : StationSet
  holding : BitVec 9
  piece : Option Piece
  deriving DecidableEq, Repr

/-- The steps of the part, one constructor per row of the table of operations and events.

Requests of the host carry their argument bytes (R177).
Frames carry the sender's station number of their identifier and their payload fields at wire width (R176).
Events of time carry what the line or the pins add to them: whether the line is busy at the mark (R57), the plan entry reached, the ticks a pin has shown a level. -/
inductive Instr where
  /-- The reset line is asserted and released (R84). -/
  | resetLine
  /-- The strap load ends with this word (R174). -/
  | strapLoad (word : BitVec 14)
  /-- The code byte of a Local Port transaction is received (R165, R169). -/
  | requestCodeByte (code : Byte)
  | configWrite (item index : Byte) (value : BitVec 32)
  | configRead (item index : Byte)
  | configDone
  | enterConfig
  | restart
  | faultClear
  | holdSet
  | holdClear
  | tipBegin
  | tipEnd (tonnes held : Word16) (grade : Byte)
  | tipAbandon
  | breakBegin
  | breakEnd (passed : Word16) (cleared : Byte)
  | breakAbandon
  | drawQueue (kind : Byte) (amount : Word16)
  | drawStop
  | gateReset
  | unhang
  | sight (measured : Word16)
  | accessBegin
  | accessEnd
  | readStatus
  | readLot (index : Byte)
  | readClaim (row : Byte)
  | readWait (index : Byte)
  | readStrap
  | readConditions
  | readNotices
  | clearNotices (set : Word16)
  | setMask (set : Word16)
  | readChannelKeep (channel : Byte)
  | readChannelTake (channel : Byte)
  | ackChannel (channel : Byte)
  | setOutput (channel level : Byte)
  /-- A frame below is a valid frame at its point of application (R56), received or the station's own read back. -/
  | openingFrame (sender : BitVec 4) (round sequence : Byte) (paused : Bool) (config : Word16)
  /-- A STATUS frame and the round time at its point of application, which decides whether it fell in its sender's slot (R71). -/
  | statusFrame (sender : BitVec 4) (fields : StatusFields) (time : Nat)
  | hangupFrame (sender : BitVec 4) (chute : Byte)
  | unhangFrame (sender : BitVec 4) (chute : Byte)
  | releaseFrame (sender : BitVec 4) (row : Byte)
  | withdrawFrame (sender : BitVec 4) (row : Byte)
  | drawFrame (sender : BitVec 4) (chute : Byte) (tonnes : Word16)
  | lotInFrame (sender : BitVec 4) (level : Byte) (tonnes held : BitVec 12) (grade : Byte)
  | brokenFrame (sender : BitVec 4) (level : Byte) (cleared : Bool) (passed : BitVec 12)
  | sightingFrame (sender : BitVec 4) (measured : Word16)
  | claimFrame (sender : BitVec 4) (row purpose : Byte)
  | catchupFrame (sender : BitVec 4) (provider : Byte)
  | caughtFrame (sender : BitVec 4) (outcome : Byte)
  /-- The line bits of a received frame, start bit first (true is recessive), and the round time of its start bit (R54). -/
  | frameDiscard (bits : List Bool) (start : Nat)
  /-- A read-back mismatch cuts the frame the station is sending; `read` holds the bits read on LRX from its start bit on, true recessive; left out, none has been read (R59). -/
  | ownFrameFailure (read : List Bool := [])
  /-- The frame the station is sending loses arbitration; `read` as above (R58). -/
  | arbitrationLoss (read : List Bool := [])
  /-- Round time reaches the station's own STATUS mark (R70). -/
  | statusSlot (lineBusy : Bool)
  /-- Round time reaches the owner's STATUS mark plus 40 (R71). -/
  | statusCheck (owner : BitVec 4)
  /-- Round time reaches the WINDOW entry with this index in the walked plan (R72). -/
  | window (entry : Nat) (lineBusy : Bool)
  /-- Round time reaches the opener's bid mark (R73). -/
  | openingBid (lineBusy : Bool)
  | watchExpiry
  | listenSpanEnd
  | joiningDecision
  | leaseExpiry (row : Row)
  | waitLimitRemoval (station : BitVec 4)
  | freezeLimit
  | retryDue
  | dwellComplete
  | flowTimeout
  | hostSilent
  | gateStuck
  /-- The pin of a LINE-IN channel has shown the level `high` at `ticks` consecutive field ticks up to now (R146). -/
  | debouncedLevelChange (channel : Fin 8) (high : Bool) (ticks : Nat)
  /-- An edge at the pin of a COUNT-IN channel (R147); `ticked` when a field tick has come since the mode was set, as it has where nothing is said (R145). -/
  | countInEdge (channel : Fin 8) (rising : Bool) (ticked : Bool := true)
  /-- An edge at the pin of a CAPTURE-IN channel (R148); `ticked` as above. -/
  | captureInEdge (channel : Fin 8) (rising : Bool) (ticked : Bool := true)
  /-- A pulse of `width` ms ends at a WIDTH-IN channel; `whole` when it began after the first field tick since the mode was set (R145, R149). -/
  | widthInPulse (channel : Fin 8) (width : Nat) (whole : Bool)
  /-- The sensed level of a LINE-OUT channel has differed from the commanded level at `ticks` consecutive field ticks (R150). -/
  | readbackFault (channel : Fin 8) (ticks : Nat)
  /-- The sensed level of a LINE-OUT channel agrees with the commanded level at a field tick (R150). -/
  | readbackAgree (channel : Fin 8)
  | receiverReturnsToWaiting
  deriving DecidableEq, Repr

end Sys2Proof
end

