-- ==== Sys2Proof/Machine/Bits.lean ====
section
/-! DEFINITION. Bits and bytes as the line, the port and the digests order them (most significant bit first), the 16-bit check of R53, bit insertion of R51, and sets of stations. -/

namespace Sys2Proof.Machine

/-- The `w` low bits of `v`, most significant first (Formats: every multi-bit field is sent MSB first). -/
def fieldBits : Nat → Nat → List Bool
  | 0, _ => []
  | w + 1, v => v.testBit w :: fieldBits w v

/-- The number a bit list spells, most significant bit first. -/
def natOfBits : List Bool → Nat
  | [] => 0
  | b :: bs => b.toNat * 2 ^ bs.length + natOfBits bs

/-- A list of fields, each a width and a value, packed end to end; the field listed first takes the highest bits (Formats). -/
def packFields : List (Nat × Nat) → List Bool
  | [] => []
  | f :: fs => fieldBits f.1 f.2 ++ packFields fs

/-- The bits cut into bytes; bits left over at the end make no byte. -/
def bytesOf : List Bool → List Byte
  | a :: b :: c :: d :: e :: f :: g :: h :: rest =>
    BitVec.ofNat 8 (natOfBits [a, b, c, d, e, f, g, h]) :: bytesOf rest
  | _ => []

/-- The bits of a bit vector, most significant first. -/
def bitsOf {w : Nat} (x : BitVec w) : List Bool := fieldBits w x.toNat

/-- The field of width `w` at the head of the bits. -/
def takeField (w : Nat) (bits : List Bool) : BitVec w := BitVec.ofNat w (natOfBits (bits.take w))

/-! ### The check of R53 -/

/-- One bit into the register with generator x^16 + x^12 + x^5 + 1. -/
def crcStep (r : Word16) (b : Bool) : Word16 :=
  if r.msb != b then (r <<< 1) ^^^ 0x1021#16 else r <<< 1

/-- The check over bits in line order, the register preset to all ones and not inverted (R53, R99). -/
def crc (bits : List Bool) : Word16 := bits.foldl crcStep 0xFFFF#16

/-! ### Bit insertion of R51 -/

/-- The bits with one bit of opposite value after every run of six equal bits; `last` and `run` are the run before them. The inserted bit is the first of the next run. -/
def stuff : Bool → Nat → List Bool → List Bool
  | _, _, [] => []
  | last, run, b :: bs =>
    let r := if b = last then run + 1 else 1
    if r = 6 then b :: (!b) :: stuff (!b) 1 bs else b :: stuff b r bs

/-- What a receiver holds after reading some bits of the inserted region: the bits without the inserted ones, the run it stands in, and the line bits not yet read. -/
structure Unstuffed where
  bits : List Bool
  last : Bool
  run : Nat
  rest : List Bool
  deriving DecidableEq, Repr

/-- The receiver reads `n` bits of the inserted region and removes each inserted bit; a seventh equal bit, or a line left recessive in the middle of the frame, is a coding error, `none` (R51). -/
def unstuff : Nat → Bool → Nat → List Bool → Option Unstuffed
  | 0, last, run, line => some { bits := [], last := last, run := run, rest := line }
  | _ + 1, _, _, [] => none
  | n + 1, last, run, b :: bs =>
    let r := if b = last then run + 1 else 1
    if r = 6 then
      match bs with
      | [] => none
      | c :: cs =>
        if c = b then none
        else (unstuff n c 1 cs).map fun u => { u with bits := b :: u.bits }
    else (unstuff n b r bs).map fun u => { u with bits := b :: u.bits }

/-! ### Sets of stations -/

/-- Station `k` is in the set (bit k − 1; Formats). -/
def hasStation (set : StationSet) (k : Nat) : Bool := decide (1 ≤ k) && set.getLsbD (k - 1)

/-- The set with station `k`, for k from 1 to 12. -/
def withStation (set : StationSet) (k : Nat) : StationSet :=
  if 1 ≤ k then set ||| BitVec.twoPow 12 (k - 1) else set

/-- The set without station `k`. -/
def withoutStation (set : StationSet) (k : Nat) : StationSet :=
  if 1 ≤ k then set &&& ~~~(BitVec.twoPow 12 (k - 1)) else set

/-- The place of the last list element with a property. -/
def lastIndex {α : Type} (p : α → Bool) : List α → Option Nat
  | [] => none
  | x :: xs =>
    match lastIndex p xs with
    | some i => some (i + 1)
    | none => if p x then some 0 else none

end Sys2Proof.Machine
end

