-- ==== Sys2Proof/Config.lean ====
section
/-! DEFINITION. What the part fixes once for all (timing constants, default settings) and the FREE VALUES: opaque constants for results the manual does not state. -/

namespace Sys2Proof.Config

/-- The frame allowance, 40 marks (Scope, Link time). -/
def frameAllowance : Nat := 40

/-- The marks by which the WATCH mark stands after the OPEN mark at least (R80, check 9). -/
def watchGap : Nat := 200

/-- The highest round time (R67). -/
def lastRoundTime : Nat := 4095

/-- The length of one mark in microseconds at rate codes 0–3 (Scope, Link time). -/
def markMicros (rate : Nat) : Nat := 256 >>> rate

/-- The field tick, 1 ms, in microseconds (Scope, Field time). -/
def fieldTickMicros : Nat := 1000

/-- The strap load ends 15 field ticks after reset release (R174). -/
def strapLoadTicks : Nat := 15

/-- FREE VALUE. The value bytes of CONFIG-READ for an unwritten item: R172 gives the indication and no value (log 3). -/
opaque unwrittenValue : Nat → BitVec 32

/-- FREE VALUE. The record items of READ-STATUS, bytes 21–37, at a station that holds a record outside IN-STEP: R2 and R177 say that the presence bit is clear and not what the items read (log 3). -/
opaque unreadRecordItems : Nat → BitVec 136

/-- FREE VALUE. Whether the HOST-SILENT abandonment reaches the activities before the CLAIM discard of the same rise: R125 and R171 allow both orders (log 4). -/
opaque abandonFirst : Nat → Bool

/-- FREE VALUE. Whether a cleared byte of BREAK-END other than 0 and 1 sets the flag: R177 names no other code (log 5). -/
opaque clearedFlag : Byte → Bool

/-- FREE VALUE. The asserted level of a LINE-IN or LINE-OUT channel under a Y other than 0 and 1, a setting CONFIG-DONE refuses (R145, log 6). -/
opaque polarityHigh : Word16 → Bool

/-- FREE VALUE. Whether an edge counts under a Y other than 0, 1 and 2, a setting CONFIG-DONE refuses (R145, log 6). -/
opaque edgeCounts : Word16 → Bool → Bool

/-- FREE VALUE. The whole tonnes and pulse remainder after an edge at a COUNT-IN channel with X = 0, a setting CONFIG-DONE refuses (R145, log 6). -/
opaque countAtZero : Nat → Nat → Word16 × Word16

/-- FREE VALUE. The average a WIDTH-IN channel with Y = 0 completes at a pulse, if any: a setting CONFIG-DONE refuses (R145, log 6). -/
opaque averageOfNone : Nat → Option Word16

end Sys2Proof.Config
end

