-- ==== Sys2Proof/Machine/State.lean ====
section
/-! DEFINITION. The state of one FM628 station: everything the manual gives its ten blocks, the queue of waiting commands, and the machine after the reset line. -/

namespace Sys2Proof.Machine

/-- Reasons a step stops with a fault: there are none. Every command of the table has an effect the manual states, so no meaning raises a fault. -/
inductive Fault
  deriving DecidableEq, Repr

/-- Reasons a step is refused. -/
inductive Refusal where
  /-- Raised by exec's own arm for a command that has no meaning yet; safe, since the model then says nothing. No arm uses it now. -/
  | notModelled (mnemonic : String)
  deriving DecidableEq, Repr

/-! ### The pass record (PRU) -/

/-- What a claim is for (R28; codes 1–4 of Formats). -/
inductive Purpose where
  | tip | brk | draw | access
  deriving DecidableEq, Repr

/-- Kind of a lot (R3; codes 0–2). -/
inductive LotKind where
  | tipped | broken | found
  deriving DecidableEq, Repr

/-- One lot (R3). `held` is the lot's state and held tonnes in one: `some h` is an OPEN lot with held tonnes h, `none` a CLOSED lot, so that held tonnes are present exactly while the lot is OPEN (R4). -/
structure Lot where
  number : Nat
  kind : LotKind
  source : Nat
  gradeClass : Nat
  tonnes : Nat
  held : Option Nat
  deriving DecidableEq, Repr

/-- The hang-up record (R8). -/
structure HangUp where
  chute : Nat
  stamp : Nat
  total : Nat
  deriving DecidableEq, Repr

/-- The ore column (R2, R3, R6–R8). `hung` is the column state and the hang-up record in one: the record is present exactly while the column is HUNG (R8). -/
structure Column where
  lots : List Lot
  hung : Option HangUp
  unverified : Bool
  overdraw : Nat
  nextLot : Nat
  deriving DecidableEq, Repr

/-- A grant (R28). The reservation is 0 where it is absent, that is on CHUTE and ACCESS rows. -/
structure Grant where
  holder : Nat
  purpose : Purpose
  lease : Nat
  reservation : Nat
  deriving DecidableEq, Repr

/-- The claim table: nine rows, each free or holding one grant (R27, R28). -/
structure ClaimTable where
  level1 : Option Grant
  level2 : Option Grant
  level3 : Option Grant
  level4 : Option Grant
  level5 : Option Grant
  level6 : Option Grant
  chute1 : Option Grant
  chute2 : Option Grant
  access : Option Grant
  deriving DecidableEq, Repr

/-- A waiting claim (R32). -/
structure WaitEntry where
  station : Nat
  row : Row
  purpose : Purpose
  age : Nat
  reservation : Nat
  deriving DecidableEq, Repr

/-- The pass record: ore column, claim table and wait queue, oldest entry first (R2, R27, R32). -/
structure Record where
  column : Column
  table : ClaimTable
  queue : List WaitEntry
  deriving DecidableEq, Repr

/-! ### The Link Controller (LKC) -/

/-- Outcome field of a CAUGHT frame (codes 1 and 2 of Formats). -/
inductive CaughtOutcome where
  | installed | abandoned
  deriving DecidableEq, Repr

/-- An event frame in the transmit queue: kind and payload, the sender's own number implied (R60). -/
inductive EventFrame where
  | hangup (chute : Nat)
  | unhang (chute : Nat)
  | release (row : Row)
  | withdraw (row : Row)
  | draw (chute tonnes : Nat)
  | lotIn (level tonnes held grade : Nat)
  | broken (level passed : Nat) (cleared : Bool)
  | sighting (measured : Nat)
  | claim (row : Row) (purpose : Purpose)
  | catchup (provider : Nat)
  | caught (outcome : CaughtOutcome)
  deriving DecidableEq, Repr

/-- The frame the LKC is sending (R57): an event frame of the queue, the STATUS frame or the OPENING frame as assembled. -/
inductive Sending where
  | event (frame : EventFrame)
  | status (fields : StatusFields)
  | opening (round sequence : Nat) (paused : Bool) (config : Word16)
  deriving DecidableEq, Repr

/-- The state of the LKC (R54, R55, R59, R60, R64). -/
structure Lkc where
  queue : List EventFrame
  sending : Option Sending
  ownFailures : Nat
  badFrames : Nat
  losses : Nat
  /-- The receiver has discarded a frame and has not yet returned to waiting for a start bit (R54). -/
  discarding : Bool
  /-- Round time restarts at 0 when the receiver returns to waiting, the round having been abandoned (R77). -/
  restartAtReturn : Bool
  deriving DecidableEq, Repr

/-! ### The Round Scheduler (RSC) -/

/-- The link states (R83; codes 0–5). -/
inductive LinkState where
  | offline | listen | joining | catchup | inStep | halted
  deriving DecidableEq, Repr

/-- The span (R67). -/
inductive Span where
  | inRound | unopened
  deriving DecidableEq, Repr

/-- What a STATUS frame in its slot reported, as the joining decision and the comparison use it (R87, R100). -/
structure Report where
  link : Nat
  config : Word16
  digest : Word16
  deriving DecidableEq, Repr

/-- The state of the RSC (R67, R71, R73, R84, R85, R92). Lists over stations hold station k at position k − 1. -/
structure Rsc where
  link : LinkState
  roundTime : Nat
  roundNumber : Nat
  sequence : Nat
  paused : Bool
  span : Span
  abandoned : Bool
  holdSeen : Bool
  joiningCount : Nat
  silentSpans : Nat
  /-- Miss count of each station; a station that is no peer stays at 7 (R84, R92). -/
  miss : List Nat
  /-- Index of the next plan entry the walk may take (R69). -/
  walkPos : Nat
  /-- Index of the next STATUS entry whose check may fall due (R71). -/
  checkPos : Nat
  /-- The bid of this round or span has been made or has passed (R73). -/
  bidDone : Bool
  /-- STATUS frames applied within their own slot and not yet checked (R71). -/
  slotFrames : List (Option Report)
  /-- Slots heard at their checks in the current round (R71). -/
  heard : List (Option Report)
  /-- Slots heard in the round just ended (R87, R100). -/
  lastHeard : List (Option Report)
  deriving DecidableEq, Repr

/-! ### The Agreement Unit (AGU) -/

/-- A freeze in progress (R102). -/
structure FreezeRun where
  provider : Nat
  receivers : StationSet
  remaining : Nat
  deriving DecidableEq, Repr

/-- The freeze tracker or the freeze view (R102, R107): frozen exactly while `run` is present; the image id stays when a freeze ends (R104). -/
structure Freeze where
  run : Option FreezeRun
  imageId : Nat
  deriving DecidableEq, Repr

/-- Receiver states (R107, in the order of its table). -/
inductive ReceiverState where
  | idle | asking | collecting | installing | abandoning | backoff
  deriving DecidableEq, Repr

/-- The provider's snapshot (R103). -/
structure Snapshot where
  digest : Word16
  totalPieces : Nat
  deriving DecidableEq, Repr

/-- A stored piece: index and content (R108). -/
structure StoredPiece where
  index : Nat
  content : BitVec 112
  deriving DecidableEq, Repr

/-- The state of the AGU (R99, R100, R102, R103, R107, R108, R111, R112). -/
structure Agu where
  /-- The record digest of the round, kept by the PRU (R99). -/
  digest : Word16
  majority : Word16
  compared : Nat
  /-- The station was IN-STEP at the round start before (R100). -/
  inStepBefore : Bool
  tracker : Freeze
  view : Freeze
  snapshot : Option Snapshot
  receiver : ReceiverState
  /-- Image id of the pieces in the store, 0 while it is empty (R108). -/
  storeImage : Nat
  /-- The piece store, by rising index (R108). -/
  store : List StoredPiece
  failures : Nat
  /-- Unfrozen round starts counted in BACKOFF (R112). -/
  backoffRounds : Nat
  keptCatchup : Option Nat
  keptCaught : Option CaughtOutcome
  deriving DecidableEq, Repr

/-! ### The Tip and Break Sequencer (TBS) -/

/-- Sequencer states (R115). -/
inductive TbsState where
  | idle | asking | granted | ending
  deriving DecidableEq, Repr

/-- Closing frame kinds (R115). -/
inductive Closing where
  | none | lotIn | broken | release | withdraw
  deriving DecidableEq, Repr

/-- Pending end arguments (R115). -/
inductive EndArgs where
  | tip (tonnes held grade : Nat)
  | brk (passed : Nat) (cleared : Bool)
  deriving DecidableEq, Repr

/-- Last results (R115). -/
inductive TbsResult where
  | none | granted | refused | lost | ended | abandoned
  deriving DecidableEq, Repr

/-- The state of the TBS (R115), with the RELEASE it keeps when an offer of its own accord is refused (R125). -/
structure Tbs where
  state : TbsState
  claimInQueue : Bool
  closing : Closing
  /-- The model's own: how many frames of the closing kind stand in the queue before the session's closing frame, so that its application can be told from theirs (R120, log 11). -/
  ahead : Nat
  pendingEnd : Option EndArgs
  lastResult : TbsResult
  output : Bool
  keptRelease : Bool
  deriving DecidableEq, Repr

/-! ### The Draw Engine (DRE) -/

/-- An order with its progress: drawn tonnes of a DRAW, rounds left of a DWELL (R131). -/
inductive Order where
  | draw (target drawn : Nat)
  | dwell (amount left : Nat)
  deriving DecidableEq, Repr

/-- Engine states (R130). -/
inductive EngineState where
  | idle | asking | running | dwelling | suspended | hung | faulted
  deriving DecidableEq, Repr

/-- Gate states (R130, R133). -/
inductive GateState where
  | shut | opening | isOpen | closing | stuck
  deriving DecidableEq, Repr

/-- Order outcomes (R130). -/
inductive OrderOutcome where
  | none | complete | cushion | stopped | hung | lost | fault
  deriving DecidableEq, Repr

/-- The state of the DRE (R130), with the commanded valve levels (R133) and the frames it keeps when an offer of its own accord is refused (R60). -/
structure Dre where
  current : Option Order
  next : Option Order
  state : EngineState
  gate : GateState
  strokeCount : Nat
  claimInQueue : Bool
  releasePending : Bool
  ownHangup : Bool
  unannounced : Nat
  queued : Nat
  flowWatch : Nat
  lastOutcome : OrderOutcome
  openValve : Bool
  closeValve : Bool
  keptRelease : Bool
  keptHangup : Bool
  deriving DecidableEq, Repr

/-! ### The Field Channel Array (FCA) -/

/-- A capture: the round stamp and round time of the edge, or the no-time flag (R148). -/
inductive Capture where
  | timed (stamp time : Nat)
  | noTime
  deriving DecidableEq, Repr

/-- One Field Channel (R145): its settings as written, and its run-time items by mode. -/
structure Channel where
  mode : BitVec 8
  x : Word16
  y : Word16
  binding : BitVec 8
  /-- The level at the pin, true for high, as the last event or the last command of the channel showed it (logs 2, 44). -/
  pin : Bool
  ready : Bool
  fault : Bool
  /-- The mode has been set and no field tick has come since: the channel does not condition its pin yet, and that tick takes a LINE-IN level without debounce (R145, R146). -/
  fresh : Bool
  /-- LINE-IN: the debounced level, absent until the first field tick after the mode is set (R146). -/
  level : Option Bool
  /-- LINE-IN: consecutive field ticks at which the pin has shown the other level (R146). -/
  run : Nat
  /-- COUNT-IN: whole tonnes and pulse remainder (R147). -/
  whole : Nat
  remainder : Nat
  /-- CAPTURE-IN: the capture and the ignored-edge count (R148). -/
  capture : Option Capture
  ignored : Nat
  /-- WIDTH-IN: sum and number of completed pulses, and the average (R149). -/
  sum : Nat
  pulses : Nat
  average : Option Nat
  /-- LINE-OUT: commanded level and the count of disagreeing ticks (R150). -/
  commanded : Bool
  graceCount : Nat
  deriving DecidableEq, Repr

/-- The FCA: eight channels, the sighting round count and the SIGHTING kept over from a refused offer (R145, R154). -/
structure Fca where
  channels : List Channel
  sightingCount : Nat
  keptSighting : Option Nat
  deriving DecidableEq, Repr

/-! ### The Local Port (LPT), the Strap Loader (STL) and time -/

/-- Answer codes (R166, R177); `checkFailed n` is the answer 64 + n of a failing CONFIG-DONE. -/
inductive Answer where
  | taken | busy | full | role | notInStep | degraded | held | badArg | configOnly | runOnly
  | bound | noRecord | unknown
  | checkFailed (check : Nat)
  deriving DecidableEq, Repr

/-- States of the access sub-state (R170). -/
inductive AccessState where
  | idle | asking | held
  deriving DecidableEq, Repr

/-- The configuration items of R172 as written, but the channel settings, which stand with their channels, and the notice mask, which stands with the notices. An item absent after the reset line is unwritten. -/
structure Settings where
  planLength : BitVec 8
  plan : List (Option (BitVec 32))
  levels : BitVec 8
  chokes : List (Option Word16)
  cushion : Option Word16
  tipReservation : Word16
  leaseLength : BitVec 8
  waitLimit : BitVec 8
  dropThreshold : BitVec 8
  freezeLimit : BitVec 8
  tolerance : Word16
  founding : Word16
  flowTimeout : BitVec 8
  strokeTime : Word16
  hostInterval : BitVec 8
  sightingSource : BitVec 8
  sightingInterval : BitVec 8
  deriving DecidableEq, Repr

/-- The state of the LPT (R165–R172), with the last answer and read data on SDO. -/
structure Lpt where
  notices : Word16
  mask : Word16
  countdown : Nat
  holdRequest : Bool
  access : AccessState
  accessClaim : Bool
  configDigest : Option Word16
  answer : Option Answer
  readData : List Byte
  deriving DecidableEq, Repr

/-- The state of the STL (R174): the word, whether the load has ended, and the field ticks since release. -/
structure Stl where
  word : BitVec 14
  loaded : Bool
  ticks : Nat
  deriving DecidableEq, Repr

/-- The whole station. -/
structure State where
  lkc : Lkc
  rsc : Rsc
  /-- The pass record, present from founding or install until it is discarded (R2, R27). -/
  record : Option Record
  agu : Agu
  tbs : Tbs
  dre : Dre
  fca : Fca
  /-- The active conditions, bit i for the i-th condition of the Fault Grades table (R156, R177). -/
  conditions : BitVec 13
  settings : Settings
  lpt : Lpt
  stl : Stl
  /-- Microseconds of field time since the last field tick. -/
  microseconds : Nat
  /-- The model's own: how many free values have been used. -/
  freeCount : Nat
  /-- The commands that wait, first in, first out. -/
  pending : List Instr
  deriving DecidableEq, Repr

/-! ### The state after the reset line -/

/-- R65: empty queue, counts 0, nothing sent. -/
def Lkc.reset : Lkc :=
  { queue := [], sending := none, ownFailures := 0, badFrames := 0, losses := 0
    discarding := false, restartAtReturn := false }

/-- R67 and R84: the values after the reset line. -/
def Rsc.reset : Rsc :=
  { link := .offline, roundTime := 0, roundNumber := 23, sequence := 255, paused := false
    span := .unopened, abandoned := false, holdSeen := false, joiningCount := 0, silentSpans := 0
    miss := List.replicate 12 7, walkPos := 0, checkPos := 0, bidDone := false
    slotFrames := List.replicate 12 none, heard := List.replicate 12 none
    lastHeard := List.replicate 12 none }

/-- Not frozen, with image id 0 (R113). -/
def Freeze.idle : Freeze := { run := none, imageId := 0 }

/-- R113: the state the reset line, RESTART and ENTER-CONFIG give the AGU; the image id 0 of the view is the model's (log 25). -/
def Agu.reset : Agu :=
  { digest := 0, majority := 0, compared := 0, inStepBefore := false, tracker := Freeze.idle
    view := Freeze.idle, snapshot := none, receiver := .idle, storeImage := 0, store := []
    failures := 0, backoffRounds := 0, keptCatchup := none, keptCaught := none }

/-- R115: the state the reset line, RESTART and ENTER-CONFIG give the TBS. -/
def Tbs.reset : Tbs :=
  { state := .idle, claimInQueue := false, closing := .none, ahead := 0, pendingEnd := none
    lastResult := .none, output := false, keptRelease := false }

/-- R130: the values after the reset line. -/
def Dre.reset : Dre :=
  { current := none, next := none, state := .idle, gate := .shut, strokeCount := 0
    claimInQueue := false, releasePending := false, ownHangup := false, unannounced := 0, queued := 0
    flowWatch := 0, lastOutcome := .none, openValve := false, closeValve := false
    keptRelease := false, keptHangup := false }

/-- R155: OFF, 0, 0, LOCAL, readings empty. The pin is an input; low is the log's choice (log 2). -/
def Channel.reset : Channel :=
  { mode := 0, x := 0, y := 0, binding := 0, pin := false, ready := false, fault := false
    fresh := true, level := none, run := 0, whole := 0, remainder := 0, capture := none, ignored := 0, sum := 0, pulses := 0
    average := none, commanded := false, graceCount := 0 }

/-- R155: eight channels as after the reset line, sighting round count 255, nothing kept. -/
def Fca.reset : Fca :=
  { channels := List.replicate 8 Channel.reset, sightingCount := 255, keptSighting := none }

/-- R172: the items after the reset line. -/
def Settings.reset : Settings :=
  { planLength := 0, plan := List.replicate 40 none, levels := 0, chokes := List.replicate 6 none
    cushion := none, tipReservation := 60, leaseLength := 48, waitLimit := 96, dropThreshold := 3
    freezeLimit := 96, tolerance := 100, founding := 0, flowTimeout := 40, strokeTime := 8000
    hostInterval := 0, sightingSource := 0, sightingInterval := 24 }

/-- R175: the LPT after the reset line; no answer stands. -/
def Lpt.reset : Lpt :=
  { notices := 0, mask := 0, countdown := 0, holdRequest := false, access := .idle
    accessClaim := false, configDigest := none, answer := none, readData := [] }

/-- The strap word is not loaded yet; word 0 until the load is the log's choice (log 1). -/
def Stl.reset : Stl := { word := 0, loaded := false, ticks := 0 }

/-- The station right after the reset line is released (R84, R156, R175), with no command waiting. -/
def State.reset : State :=
  { lkc := Lkc.reset, rsc := Rsc.reset, record := none, agu := Agu.reset, tbs := Tbs.reset
    dre := Dre.reset, fca := Fca.reset, conditions := 0, settings := Settings.reset
    lpt := Lpt.reset, stl := Stl.reset, microseconds := 0, freeCount := 0, pending := [] }

end Sys2Proof.Machine
end

