-- ==== Sys2Proof/Machine/Operands.lean ====
section
/-! DEFINITION. The codes of rows, purposes, states and settings on the line and at the port (Formats, Pins and Ratings), and the fields of the strap word and the round plan. -/

namespace Sys2Proof.Machine

/-! ### Rows and purposes -/

/-- Row codes 1–9 (Formats). -/
def rowCode : Row → Nat
  | .level1 => 1 | .level2 => 2 | .level3 => 3 | .level4 => 4 | .level5 => 5 | .level6 => 6
  | .chute1 => 7 | .chute2 => 8 | .access => 9

/-- The row a code names; 0 and 10–255 name none (R176). -/
def rowOfCode (c : Nat) : Option Row :=
  match c with
  | 1 => some .level1 | 2 => some .level2 | 3 => some .level3 | 4 => some .level4
  | 5 => some .level5 | 6 => some .level6 | 7 => some .chute1 | 8 => some .chute2
  | 9 => some .access | _ => none

/-- The row LEVEL-k. -/
def levelRow (k : Nat) : Option Row := if k ≤ 6 then rowOfCode k else none

/-- The row CHUTE-j. -/
def chuteRow (j : Nat) : Option Row :=
  match j with
  | 1 => some .chute1 | 2 => some .chute2 | _ => none

/-- The level of a LEVEL row, 0 for any other row. -/
def rowLevel : Row → Nat
  | .level1 => 1 | .level2 => 2 | .level3 => 3 | .level4 => 4 | .level5 => 5 | .level6 => 6
  | .chute1 => 0 | .chute2 => 0 | .access => 0

/-- The row is a LEVEL row. -/
def isLevel (r : Row) : Bool := decide (1 ≤ rowLevel r)

/-- The nine rows in row order. -/
def allRows : List Row :=
  [.level1, .level2, .level3, .level4, .level5, .level6, .chute1, .chute2, .access]

/-- Purpose codes 1–4. -/
def purposeCode : Purpose → Nat
  | .tip => 1 | .brk => 2 | .draw => 3 | .access => 4

/-- The purpose a code names; 0 and 5–255 name none (R176). -/
def purposeOfCode (c : Nat) : Option Purpose :=
  match c with
  | 1 => some .tip | 2 => some .brk | 3 => some .draw | 4 => some .access | _ => none

/-- Lot kind codes 0–2. -/
def kindCode : LotKind → Nat
  | .tipped => 0 | .broken => 1 | .found => 2

/-- The lot kind a code names. -/
def kindOfCode (c : Nat) : Option LotKind :=
  match c with
  | 0 => some .tipped | 1 => some .broken | 2 => some .found | _ => none

/-- The grade class UNKNOWN (R3). -/
def gradeUnknown : Nat := 7

/-- Link state codes 0–5. -/
def linkCode : LinkState → Nat
  | .offline => 0 | .listen => 1 | .joining => 2 | .catchup => 3 | .inStep => 4 | .halted => 5

/-- CAUGHT outcome codes 1 and 2. -/
def caughtCode : CaughtOutcome → Nat
  | .installed => 1 | .abandoned => 2

/-- The outcome a CAUGHT byte names; any other acts on nothing (R176). -/
def caughtOfCode (c : Nat) : Option CaughtOutcome :=
  match c with
  | 1 => some .installed | 2 => some .abandoned | _ => none

/-! ### The strap word (R174 and its layout) -/

/-- The four roles (Scope; role codes 0–3). -/
inductive Role where
  | tip | breaker | chute | monitor
  deriving DecidableEq, Repr

/-- Role codes. -/
def roleOfCode (c : Nat) : Role :=
  match c with
  | 0 => .tip | 1 => .breaker | 2 => .chute | _ => .monitor

/-- The station's number, strap bits 13–10. -/
def State.station (s : State) : Nat := (s.stl.word.extractLsb' 10 4).toNat

/-- The role code, strap bits 9–8. -/
def State.roleCode (s : State) : Nat := (s.stl.word.extractLsb' 8 2).toNat

/-- The station's role. -/
def State.role (s : State) : Role := roleOfCode s.roleCode

/-- The station's place, strap bits 7–5. -/
def State.place (s : State) : Nat := (s.stl.word.extractLsb' 5 3).toNat

/-- The opener rank, strap bits 4–2. -/
def State.rank (s : State) : Nat := (s.stl.word.extractLsb' 2 3).toNat

/-- The rate code, strap bits 1–0. -/
def State.rate (s : State) : Nat := (s.stl.word.extractLsb' 0 2).toNat

/-- The conditions under which the strap valid flag stands (R174). -/
def State.strapFieldsValid (s : State) : Bool :=
  decide (1 ≤ s.station ∧ s.station ≤ 12) && decide (s.rank ≤ 4) &&
  match s.role with
  | .tip | .breaker => decide (1 ≤ s.place ∧ s.place ≤ 6)
  | .chute => decide (1 ≤ s.place ∧ s.place ≤ 2)
  | .monitor => true

/-- The strap valid flag: clear until the load has ended (R174). -/
def State.strapValid (s : State) : Bool := s.stl.loaded && s.strapFieldsValid

/-- The row of the station's place: LEVEL-k of a TIP or BREAKER station, CHUTE-j of a CHUTE station (R116, R131). -/
def State.ownRow (s : State) : Option Row :=
  match s.role with
  | .tip | .breaker => levelRow s.place
  | .chute => chuteRow s.place
  | .monitor => none

/-! ### Round plan entries (R68 and their layout) -/

/-- The five entry kinds; `finish` is END. -/
inductive PlanKind where
  | status | window | opening | watch | finish
  deriving DecidableEq, Repr

/-- A plan entry as read from its four bytes. -/
structure PlanEntry where
  kind : Option PlanKind
  mark : Nat
  owner : Nat
  period : Nat
  phase : Nat
  deriving DecidableEq, Repr

/-- Entry kind codes 0–4; 5–255 name no kind. -/
def planKindOfCode (c : Nat) : Option PlanKind :=
  match c with
  | 0 => some .status | 1 => some .window | 2 => some .opening | 3 => some .watch | 4 => some .finish
  | _ => none

/-- Period codes 0–7 give 1, 2, 3, 4, 6, 8, 12, 24. -/
def periodOfCode (c : Nat) : Nat :=
  match c with
  | 0 => 1 | 1 => 2 | 2 => 3 | 3 => 4 | 4 => 6 | 5 => 8 | 6 => 12 | _ => 24

/-- A plan entry's fields from its four bytes: kind (1), owner 4 bits and mark 12 bits (2), period code 3 bits and phase 5 bits (1). -/
def PlanEntry.ofWord (w : BitVec 32) : PlanEntry :=
  { kind := planKindOfCode (w.extractLsb' 24 8).toNat
    owner := (w.extractLsb' 20 4).toNat
    mark := (w.extractLsb' 8 12).toNat
    period := periodOfCode (w.extractLsb' 5 3).toNat
    phase := (w.extractLsb' 0 5).toNat }

/-- An entry is active in round r when r mod P equals its phase (R68). -/
def PlanEntry.active (e : PlanEntry) (round : Nat) : Bool := decide (round % e.period = e.phase)

/-- The entries of the plan: those below the plan length, unwritten ones absent (R172). -/
def Settings.entries (c : Settings) : List (Option PlanEntry) :=
  (c.plan.take c.planLength.toNat).map (Option.map PlanEntry.ofWord)

/-- The list up to and including its first END (R69, R80). -/
def walkedOf : List PlanEntry → List PlanEntry
  | [] => []
  | e :: es => if e.kind = some .finish then [e] else e :: walkedOf es

/-- The walked entries of the plan (R80). -/
def Settings.walk (c : Settings) : List PlanEntry := walkedOf (c.entries.filterMap id)

/-- The mark of the first walked entry of a kind. -/
def Settings.markOf (c : Settings) (k : PlanKind) : Option Nat :=
  (c.walk.find? fun e => e.kind = some k).map PlanEntry.mark

/-- The place and the entry of a station's STATUS slot (R70, R71). -/
def Settings.slotOf (c : Settings) (owner : Nat) : Option (Nat × PlanEntry) :=
  let i := c.walk.findIdx fun e => e.kind = some .status ∧ e.owner = owner
  (c.walk[i]?).map fun e => (i, e)

/-- The opener's bid mark: the OPEN entry's mark plus (rank − 1) × 40 for ranks 1–4 (R73). -/
def State.bidMark (s : State) : Option Nat :=
  if 1 ≤ s.rank ∧ s.rank ≤ 4 then
    (s.settings.markOf .opening).map fun m => m + (s.rank - 1) * Config.frameAllowance
  else none

/-! ### Settings as numbers (R172) -/

/-- choke_k, 0 where unwritten. -/
def Settings.choke (c : Settings) (k : Nat) : Nat := ((c.chokes.getD (k - 1) none).getD 0).toNat

/-- The configured cushion, 0 where unwritten. -/
def Settings.cushionTonnes (c : Settings) : Nat := (c.cushion.getD 0).toNat

/-- The configured number of levels L. -/
def Settings.levelCount (c : Settings) : Nat := c.levels.toNat

/-! ### Channel functions and modes (R145, R151 and their codes) -/

/-- The functions a channel may be bound to. -/
inductive Func where
  | holdLine | gateOpenValve | gateCloseValve | gateOpenLimit | gateShutLimit | beltScale
  | flowSensor | permitLamp | hammerEnable | levelGauge
  deriving DecidableEq, Repr

/-- Binding codes 1–10. -/
def funcCode : Func → Nat
  | .holdLine => 1 | .gateOpenValve => 2 | .gateCloseValve => 3 | .gateOpenLimit => 4
  | .gateShutLimit => 5 | .beltScale => 6 | .flowSensor => 7 | .permitLamp => 8
  | .hammerEnable => 9 | .levelGauge => 10

/-- The function a binding code names; 0 is LOCAL. -/
def funcOfCode (c : Nat) : Option Func :=
  match c with
  | 1 => some .holdLine | 2 => some .gateOpenValve | 3 => some .gateCloseValve
  | 4 => some .gateOpenLimit | 5 => some .gateShutLimit | 6 => some .beltScale
  | 7 => some .flowSensor | 8 => some .permitLamp | 9 => some .hammerEnable
  | 10 => some .levelGauge | _ => none

/-- All functions, by rising code. -/
def allFuncs : List Func :=
  [.holdLine, .gateOpenValve, .gateCloseValve, .gateOpenLimit, .gateShutLimit, .beltScale,
   .flowSensor, .permitLamp, .hammerEnable, .levelGauge]

/-- The modes of a channel. -/
inductive Mode where
  | off | lineIn | lineOut | countIn | captureIn | widthIn
  deriving DecidableEq, Repr

/-- Mode codes 0–5; a code above 5 names no mode and conditions nothing, like OFF (log 6). -/
def modeOfCode (c : Nat) : Mode :=
  match c with
  | 1 => .lineIn | 2 => .lineOut | 3 => .countIn | 4 => .captureIn | 5 => .widthIn | _ => .off

/-- The channel's mode. -/
def Channel.modeIs (ch : Channel) (m : Mode) : Bool := decide (modeOfCode ch.mode.toNat = m)

/-- The channel is left to the host: LOCAL (R151). Every other binding code is bound, also one that names no function or a function of another mode, as OFFLINE may leave it (log 41). -/
def Channel.isLocal (ch : Channel) : Bool := decide (ch.binding = 0)

/-- The high level is the asserted level (LINE-IN) or the on level (LINE-OUT): polarity 0 (R145). -/
def Channel.highIsOn (ch : Channel) : Bool :=
  if ch.y = 0 then true else if ch.y = 1 then false else Config.polarityHigh ch.y

/-- A level read through the polarity (R146, R150). -/
def Channel.onLevel (ch : Channel) (high : Bool) : Bool := high == ch.highIsOn

/-- The channel's number at its place in the list; a channel beyond the list reads as after the reset line. -/
def State.channel (s : State) (i : Nat) : Channel := s.fca.channels.getD i Channel.reset

/-- The channel bound to a function; where OFFLINE has bound several, the lowest-numbered is the one that is read (log 40). -/
def State.boundIndex (s : State) (f : Func) : Option Nat :=
  let i := s.fca.channels.findIdx fun ch => ch.binding.toNat = funcCode f
  if i < s.fca.channels.length then some i else none

/-- The asserted state of a LINE-IN function: its debounced level is at the asserted level (R146). -/
def State.asserted (s : State) (f : Func) : Bool :=
  match s.boundIndex f with
  | none => false
  | some i =>
    let ch := s.channel i
    ch.modeIs .lineIn && (match ch.level with | none => false | some l => ch.onLevel l)

/-- The HOLD-LINE is asserted (R94, R146). -/
def State.holdLine (s : State) : Bool := s.asserted .holdLine

/-- The station's hold flag (R94). -/
def State.holdFlag (s : State) : Bool := s.holdLine || s.lpt.holdRequest

end Sys2Proof.Machine
end

