-- ==== Sys2Proof/Machine/Flags.lean ====
section
/-! DEFINITION. The flags of the station: the sixteen notices and the interrupt line (R168), the thirteen fault conditions and the grade (R156), and the standing conditions that several blocks read. -/

namespace Sys2Proof.Machine

/-! ### Notices (R168) -/

/-- The sixteen notices, in the order of R168. -/
inductive Notice where
  | granted | lost | refused | orderRoom | orderDone | hangup | column | choke
  | peers | state | grade | pause | catchup | channel | gate | freeze
  deriving DecidableEq, Repr

/-- The bit of a notice, GRANTED 0 to FREEZE 15 (R177). -/
def noticeBit : Notice → Nat
  | .granted => 0 | .lost => 1 | .refused => 2 | .orderRoom => 3 | .orderDone => 4 | .hangup => 5
  | .column => 6 | .choke => 7 | .peers => 8 | .state => 9 | .grade => 10 | .pause => 11
  | .catchup => 12 | .channel => 13 | .gate => 14 | .freeze => 15

/-- The notice stands. -/
def State.notice (n : Notice) (s : State) : Bool := s.lpt.notices.getLsbD (noticeBit n)

/-- A block sets a notice; one that stands stays standing (R168). -/
def setNotice (n : Notice) (s : State) : State :=
  { s with lpt := { s.lpt with notices := s.lpt.notices ||| BitVec.twoPow 16 (noticeBit n) } }

/-- Sets a notice where a condition holds. -/
def setNoticeIf (b : Bool) (n : Notice) (s : State) : State := if b then setNotice n s else s

/-- The IRQ output is asserted while some notice stands that is also in the mask (R168). -/
def State.irq (s : State) : Bool := decide (s.lpt.notices &&& s.lpt.mask ≠ 0)

/-! ### Conditions and the grade (R156) -/

/-- The thirteen fault conditions, in the order of the Fault Grades table. -/
inductive Condition where
  | configMismatch | transmitter | watch | hostSilent | actuator | catchupFailed | peerLoss | starved
  | disagree | noise | linkSilent | underrun | sightJump
  deriving DecidableEq, Repr

/-- The bit of a condition, CONFIG-MISMATCH 0 to SIGHT-JUMP 12 (R177). -/
def conditionBit : Condition → Nat
  | .configMismatch => 0 | .transmitter => 1 | .watch => 2 | .hostSilent => 3 | .actuator => 4
  | .catchupFailed => 5 | .peerLoss => 6 | .starved => 7 | .disagree => 8 | .noise => 9
  | .linkSilent => 10 | .underrun => 11 | .sightJump => 12

/-- The grade of each condition (Fault Grades, table of conditions). -/
def conditionGrade : Condition → Nat
  | .configMismatch => 3 | .transmitter => 3
  | .watch => 2 | .hostSilent => 2 | .actuator => 2 | .catchupFailed => 2
  | .peerLoss => 1 | .starved => 1 | .disagree => 1 | .noise => 1 | .linkSilent => 1
  | .underrun => 1 | .sightJump => 1

/-- All conditions, in the order of the table. -/
def allConditions : List Condition :=
  [.configMismatch, .transmitter, .watch, .hostSilent, .actuator, .catchupFailed, .peerLoss,
   .starved, .disagree, .noise, .linkSilent, .underrun, .sightJump]

/-- The condition is active. -/
def State.active (c : Condition) (s : State) : Bool := s.conditions.getLsbD (conditionBit c)

/-- The highest grade among the active conditions of a list, 0 where none is active. -/
def gradeAmong (s : State) : List Condition → Nat
  | [] => 0
  | c :: cs => max (if s.active c then conditionGrade c else 0) (gradeAmong s cs)

/-- The grade: the highest grade among the active conditions, G0 when none is active (R156). -/
def State.grade (s : State) : Nat := gradeAmong s allConditions

/-- The grade that conditions other than WATCH hold, as the Draw Engine reads it (R141, R143). -/
def State.gradeLessWatch (s : State) : Nat := gradeAmong s (allConditions.filter fun c => c ≠ .watch)

/-- A condition joins the active set; the change sets GRADE, and one already active changes nothing (R156). -/
def setCondition (c : Condition) (s : State) : State :=
  if s.active c then s
  else setNotice .grade { s with conditions := s.conditions ||| BitVec.twoPow 13 (conditionBit c) }

/-- A condition leaves the active set; the change sets GRADE, and one not active changes nothing (R156). What a fall of the grade brings is settled at the end of the step (R160, `finish`). -/
def clearCondition (c : Condition) (s : State) : State :=
  if s.active c then
    setNotice .grade { s with conditions := s.conditions &&& ~~~(BitVec.twoPow 13 (conditionBit c)) }
  else s

/-! ### Standing conditions read by several blocks -/

/-- The station stands paused: the paused flag of its current round is set or WATCH is active (R96). -/
def State.standsPaused (s : State) : Bool := s.rsc.paused || s.active .watch

/-- The record is frozen: the station is IN-STEP and its freeze tracker shows frozen (R102). -/
def State.frozen (s : State) : Bool := s.agu.tracker.run.isSome

/-- The column of the station's record stands HUNG. -/
def State.columnHung (s : State) : Bool := s.record.any fun r => r.column.hung.isSome

/-- The station holds a record and its column is NORMAL. -/
def State.columnNormal (s : State) : Bool := s.record.any fun r => r.column.hung.isNone

/-- The round stamp: sequence counter × 24 + round number (R67). -/
def State.stamp (s : State) : Nat := s.rsc.sequence * 24 + s.rsc.roundNumber

/-- A station number is a peer: it owns a STATUS entry of the walked plan and is not the station itself (R81). -/
def State.isPeer (s : State) (k : Nat) : Bool :=
  decide (k ≠ s.station) && (s.settings.slotOf k).isSome

/-- The miss count of a station (R92). -/
def State.missOf (s : State) (k : Nat) : Nat := s.rsc.miss.getD (k - 1) 7

/-- A station is present: the station itself, or a peer with a miss count below the drop threshold (R93). A count of 7 is absent under every threshold (R84). -/
def State.isPresent (s : State) (k : Nat) : Bool :=
  decide (k = s.station) ||
  (s.isPeer k && decide (s.missOf k < s.settings.dropThreshold.toNat) && decide (s.missOf k < 7))

/-- The station numbers 1–12. -/
def allStations : List Nat := [1, 2, 3, 4, 5, 6, 7, 8, 9, 10, 11, 12]

/-- The set of the stations with a property, station k in bit k − 1. -/
def stationsWhere (p : Nat → Bool) : StationSet :=
  allStations.foldl (fun set k => if p k then withStation set k else set) 0

/-- The present set (R93). A station strapped with number 0 or 13–15 has no bit of its own in it (log 50). -/
def State.presentSet (s : State) : StationSet := stationsWhere s.isPresent

/-- The station's own config digest, 0 before the first CONFIG-DONE taken (R173). -/
def State.ownDigest (s : State) : Word16 := s.lpt.configDigest.getD 0

end Sys2Proof.Machine
end

