-- ==== Sys2Proof/Machine/Column.lean ====
section
/-! DEFINITION. The ore column: the changes frames make to it (R12–R24), founding (R25), and the values derived from the record (R9, R10). -/

namespace Sys2Proof.Machine

/-- The sum of the tonnes of all lots; held tonnes do not count (R9). -/
def totalOf (lots : List Lot) : Nat := (lots.map Lot.tonnes).sum

/-- The total of a column (R9). -/
def Column.total (c : Column) : Nat := totalOf c.lots

/-! ### Appending, adding, removing -/

/-- The first number from `n` upward, wrapping at 65535, that names no lot; at most as many lots as `fuel` stand in the way (R5). -/
def freeNumber (lots : List Lot) : Nat → Nat → Nat
  | 0, n => n
  | fuel + 1, n =>
    if lots.any fun l => l.number = n then freeNumber lots fuel ((n + 1) % 65536) else n

/-- An append takes the next free lot number and advances the next lot number past it (R5). -/
def Column.append (c : Column) (kind : LotKind) (source grade tonnes : Nat) (held : Option Nat) : Column :=
  let n := freeNumber c.lots c.lots.length c.nextLot
  { c with
    lots := c.lots ++ [{ number := n, kind := kind, source := source, gradeClass := grade, tonnes := tonnes, held := held }]
    nextLot := (n + 1) % 65536 }

/-- An addition of tonnes to the lot at a place: beyond 65535 the excess is discarded and the column is unverified (R13). -/
def Column.addAt (c : Column) (i n : Nat) : Column :=
  match c.lots[i]? with
  | none => c
  | some l =>
    { c with
      lots := c.lots.set i { l with tonnes := min (l.tonnes + n) 65535 }
      unverified := c.unverified || decide (65535 < l.tonnes + n) }

/-- An addition to the newest lot. -/
def Column.addNewest (c : Column) (n : Nat) : Column := c.addAt (c.lots.length - 1) n

/-- What a removal walk leaves: the lots and the tonnes still to be removed. -/
structure Removal where
  lots : List Lot
  remainder : Nat
  deriving DecidableEq, Repr

/-- The removal walk of n tonnes from the oldest lot (R12): a CLOSED lot whose tonnes reach 0 leaves, an OPEN lot stays. -/
def removeTonnes : Nat → List Lot → Removal
  | n, [] => { lots := [], remainder := n }
  | n, l :: ls =>
    if n = 0 then { lots := l :: ls, remainder := 0 }
    else
      let taken := min l.tonnes n
      let r := removeTonnes (n - taken) ls
      if l.tonnes - taken = 0 ∧ l.held = none then r
      else { r with lots := { l with tonnes := l.tonnes - taken } :: r.lots }

/-! ### The column frames -/

/-- LOT-IN (R14, R15). The sender holds the LEVEL row or not; `heldLevels` is the number of LEVEL rows held before the application. -/
def Column.lotIn (c : Column) (holder : Bool) (heldLevels level tonnes held grade : Nat) : Column :=
  let heldTonnes := if held = 0 then none else some held
  if holder then c.append .tipped level grade tonnes heldTonnes
  else
    let c := { c with unverified := true }
    if c.lots.length + heldLevels ≤ 31 then c.append .tipped level grade tonnes heldTonnes
    else c.addNewest tonnes

/-- The place of the youngest OPEN lot of a level, the target of a BROKEN. -/
def Column.target (c : Column) (level : Nat) : Option Nat :=
  lastIndex (fun l => l.held.isSome && decide (l.source = level)) c.lots

/-- The passed tonnes joining the top of the column as a lot of their own, or merged into the newest lot where an append would break the lot-count law (R16, R18). -/
def Column.placeBroken (c : Column) (full : Bool) (level grade passed : Nat) : Column :=
  if passed = 0 then c
  else if full then c.addNewest passed
  else c.append .broken level grade passed none

/-- The target's held tonnes after a BROKEN: still OPEN with the difference floored at 1, or CLOSED, and then gone if it has no tonnes (R17). -/
def Column.settle (c : Column) (i passed : Nat) (cleared : Bool) : Column :=
  match c.lots[i]? with
  | none => c
  | some l =>
    if cleared then
      if l.tonnes = 0 then { c with lots := c.lots.eraseIdx i }
      else { c with lots := c.lots.set i { l with held := none } }
    else { c with lots := c.lots.set i { l with held := l.held.map fun h => max (h - passed) 1 } }

/-- BROKEN (R16–R18). -/
def Column.broken (c : Column) (holder : Bool) (heldLevels level passed : Nat) (cleared : Bool) : Column :=
  let full := !holder && decide (32 ≤ c.lots.length + heldLevels)
  let done :=
    match c.target level with
    | none => c.placeBroken full level gradeUnknown passed
    | some i =>
      let placed :=
        if i + 1 = c.lots.length then c.addAt i passed
        else c.placeBroken full level ((c.lots[i]?.map Lot.gradeClass).getD gradeUnknown) passed
      placed.settle i passed cleared
  if holder then done else { done with unverified := true }

/-- DRAW (R19, R20): the walk, and a remainder into the overdraw. -/
def Column.draw (c : Column) (n : Nat) : Column :=
  let r := removeTonnes n c.lots
  if r.remainder = 0 then { c with lots := r.lots }
  else { c with lots := r.lots, overdraw := min (c.overdraw + r.remainder) 65535, unverified := true }

/-- The walk of a DRAW of n tonnes leaves a remainder: UNDERRUN (R20). -/
def Column.underruns (c : Column) (n : Nat) : Bool := decide ((removeTonnes n c.lots).remainder ≠ 0)

/-- SIGHTING on a NORMAL column (R21, R22). The flag and the overdraw are cleared and then the correction is made, so an addition that saturates would leave the flag set (R6). -/
def Column.sighted (c : Column) (measured : Nat) : Column :=
  let cleared := { c with unverified := false, overdraw := 0 }
  if c.total < measured then
    match c.lots with
    | [] => cleared.append .found 0 gradeUnknown (measured - c.total) none
    | _ :: _ => cleared.addNewest (measured - c.total)
  else { cleared with lots := (removeTonnes (c.total - measured) c.lots).lots }

/-- The correction of a SIGHTING, |d| (R21). -/
def Column.correction (c : Column) (measured : Nat) : Nat := (measured - c.total) + (c.total - measured)

/-- HANGUP (R8, R23): a NORMAL column becomes HUNG with the hang-up record; one already HUNG stays as it is. -/
def Column.hangUp (c : Column) (chute stamp : Nat) : Column :=
  match c.hung with
  | some _ => c
  | none => { c with hung := some { chute := chute, stamp := stamp, total := c.total } }

/-- UNHANG on a HUNG column (R24). -/
def Column.unhang (c : Column) : Column := { c with hung := none, unverified := true }

/-- Founding (R25). -/
def Column.found (tonnes : Nat) : Column :=
  { lots :=
      if tonnes = 0 then []
      else [{ number := 65535, kind := .found, source := 0, gradeClass := gradeUnknown, tonnes := tonnes, held := none }]
    hung := none, unverified := true, overdraw := 0, nextLot := 0 }

end Sys2Proof.Machine
end

