-- ==== Sys2Proof/Machine/Claims.lean ====
section
/-! DEFINITION. The claim table and the wait queue: grant conditions, conflicts, the scan and the round-start claim work (R27–R44), and the derived values that read them (R9, R10). -/

namespace Sys2Proof.Machine

/-! ### The nine rows -/

/-- The grant of a row, absent when the row is free (R28). -/
def ClaimTable.get (t : ClaimTable) : Row → Option Grant
  | .level1 => t.level1 | .level2 => t.level2 | .level3 => t.level3
  | .level4 => t.level4 | .level5 => t.level5 | .level6 => t.level6
  | .chute1 => t.chute1 | .chute2 => t.chute2 | .access => t.access

/-- The table with one row written whole. -/
def ClaimTable.put (t : ClaimTable) (r : Row) (g : Option Grant) : ClaimTable :=
  match r with
  | .level1 => { t with level1 := g } | .level2 => { t with level2 := g }
  | .level3 => { t with level3 := g } | .level4 => { t with level4 := g }
  | .level5 => { t with level5 := g } | .level6 => { t with level6 := g }
  | .chute1 => { t with chute1 := g } | .chute2 => { t with chute2 := g }
  | .access => { t with access := g }

/-- All nine rows free (R27). -/
def ClaimTable.free : ClaimTable :=
  { level1 := none, level2 := none, level3 := none, level4 := none, level5 := none, level6 := none
    chute1 := none, chute2 := none, access := none }

/-- The row is held. -/
def ClaimTable.held (t : ClaimTable) (r : Row) : Bool := (t.get r).isSome

/-- The station holds the row. -/
def ClaimTable.holds (t : ClaimTable) (k : Nat) (r : Row) : Bool := (t.get r).any fun g => g.holder = k

/-- The row a station holds, if any. -/
def ClaimTable.rowOf (t : ClaimTable) (k : Nat) : Option Row := allRows.find? fun r => t.holds k r

/-- The six LEVEL rows. -/
def levelRows : List Row := [.level1, .level2, .level3, .level4, .level5, .level6]

/-- The number of LEVEL rows held. -/
def ClaimTable.heldLevels (t : ClaimTable) : Nat := (levelRows.filter t.held).length

/-- The sum of the reservations of the held LEVEL rows (R9). -/
def ClaimTable.reserved (t : ClaimTable) : Nat :=
  (levelRows.map fun r => ((t.get r).map Grant.reservation).getD 0).sum

/-! ### Derived values of a record (R9, R10) -/

/-- The configured cushion, doubled while the column is unverified (R9). -/
def Record.effectiveCushion (c : Settings) (r : Record) : Nat :=
  if r.column.unverified then 2 * c.cushionTonnes else c.cushionTonnes

/-- A configured level is CHOKED when total plus reserved reaches its choke (R10). -/
def Record.choked (c : Settings) (r : Record) (k : Nat) : Bool :=
  decide (1 ≤ k ∧ k ≤ c.levelCount ∧ c.choke k ≤ r.column.total + r.table.reserved)

/-- The choke set, levels 1 to 6 in order; a level above L is never in it. -/
def Record.chokeSet (c : Settings) (r : Record) : List Bool := [1, 2, 3, 4, 5, 6].map (r.choked c)

/-- The choke set where a record may be absent; no level is CHOKED then (log 19). -/
def chokeSetOf (c : Settings) (r : Option Record) : List Bool :=
  match r with
  | none => [1, 2, 3, 4, 5, 6].map fun _ => false
  | some r => r.chokeSet c

/-! ### Acceptance, conflict and grant conditions -/

/-- A LEVEL row above the configured number of levels is no row of this pass (R29). -/
def rowExists (c : Settings) (r : Row) : Bool := decide (rowLevel r ≤ c.levelCount)

/-- Row and purpose match (R29). -/
def claimMatches (c : Settings) (r : Row) (p : Purpose) : Bool :=
  rowExists c r &&
  match r, p with
  | .chute1, .draw | .chute2, .draw | .access, .access => true
  | .chute1, _ | .chute2, _ | .access, _ => false
  | _, .tip | _, .brk => true
  | _, _ => false

/-- Two claims conflict: the same row, or ACCESS and any other row (R29). -/
def rowsConflict (a b : Row) : Bool := decide (a = b) || decide (a = .access) || decide (b = .access)

/-- The reservation a claim carries: the tip reservation for a LEVEL row, 0 for any other (R32). -/
def claimReservation (c : Settings) (r : Row) : Nat := if isLevel r then c.tipReservation.toNat else 0

/-- The grant condition of TIP and BREAK on their level: room under the choke and in the lot list, NORMAL, ACCESS free (R30). -/
def Record.levelRoom (c : Settings) (r : Record) (row : Row) : Bool :=
  r.column.hung.isNone &&
  decide (r.column.total + r.table.reserved + c.tipReservation.toNat ≤ c.choke (rowLevel row)) &&
  decide (r.column.lots.length + r.table.heldLevels + 1 ≤ 32) && !r.table.held .access

/-- An OPEN lot of a source level stands in the column. -/
def Column.openAt (c : Column) (level : Nat) : Bool :=
  c.lots.any fun l => l.held.isSome && decide (l.source = level)

/-- A claim is grantable on the record as it stands (R30). -/
def Record.grantable (c : Settings) (r : Record) (row : Row) (p : Purpose) : Bool :=
  !r.table.held row &&
  match p with
  | .tip => r.levelRoom c row && !r.column.openAt (rowLevel row)
  | .brk => r.levelRoom c row
  | .draw =>
    r.column.hung.isNone && !r.table.held .access &&
      decide (r.effectiveCushion c < r.column.total)
  | .access => allRows.all fun other => other = .access || !r.table.held other

/-- The grant written whole (R28, R40). -/
def newGrant (c : Settings) (station : Nat) (p : Purpose) (reservation : Nat) : Grant :=
  { holder := station, purpose := p, lease := c.leaseLength.toNat, reservation := reservation }

/-! ### The scan (R38, R39) -/

/-- What a scan leaves: the table, the entries still waiting, and the entries it granted, each oldest first. -/
structure Scan where
  table : ClaimTable
  queue : List WaitEntry
  granted : List WaitEntry
  deriving DecidableEq, Repr

/-- The walk over the queue, oldest first: an entry is granted when it is grantable on the record at that point and conflicts with no older entry still waiting (R38). -/
def scanWalk (c : Settings) (col : Column) : List WaitEntry → List WaitEntry → ClaimTable → Scan
  | older, [], t => { table := t, queue := older, granted := [] }
  | older, e :: rest, t =>
    if Record.grantable c { column := col, table := t, queue := [] } e.row e.purpose &&
        !(older.any fun o => rowsConflict o.row e.row) then
      let r := scanWalk c col older rest (t.put e.row (some (newGrant c e.station e.purpose e.reservation)))
      { r with granted := e :: r.granted }
    else scanWalk c col (older ++ [e]) rest t

/-- The scan of a record. -/
def Record.scan (c : Settings) (r : Record) : Scan := scanWalk c r.column [] r.queue r.table

/-- The record a scan leaves. -/
def Record.scanned (c : Settings) (r : Record) : Record :=
  let x := r.scan c
  { r with table := x.table, queue := x.queue }

/-! ### CLAIM and WITHDRAW -/

/-- What becomes of a CLAIM (R33): granted at once, appended, or ignored or dropped. -/
inductive ClaimOutcome where
  | granted | waiting | refused
  deriving DecidableEq, Repr

/-- The station has a waiting entry. -/
def Record.waits (r : Record) (k : Nat) : Bool := r.queue.any fun e => e.station = k

/-- The cases of R33 in order, at an unfrozen record. -/
def Record.claimOutcome (c : Settings) (r : Record) (paused : Bool) (k : Nat) (row : Row) (p : Purpose) : ClaimOutcome :=
  if !claimMatches c row p then .refused
  else if r.waits k then .refused
  else if (r.table.rowOf k).isSome then .refused
  else if !paused && !(r.queue.any fun e => rowsConflict e.row row) && r.grantable c row p then .granted
  else if r.queue.length < 8 then .waiting
  else .refused

/-- The record after a CLAIM (R33, R40). -/
def Record.claim (c : Settings) (r : Record) (paused : Bool) (k : Nat) (row : Row) (p : Purpose) : Record :=
  match r.claimOutcome c paused k row p with
  | .granted => { r with table := r.table.put row (some (newGrant c k p (claimReservation c row))) }
  | .waiting =>
    { r with queue := r.queue ++
        [{ station := k, row := row, purpose := p, age := 0, reservation := claimReservation c row }] }
  | .refused => r

/-- A row released (R35). -/
def Record.release (r : Record) (row : Row) : Record := { r with table := r.table.put row none }

/-- The station waits for the row. -/
def Record.waitsFor (r : Record) (k : Nat) (row : Row) : Bool :=
  r.queue.any fun e => decide (e.station = k) && decide (e.row = row)

/-- A WITHDRAW of a LEVEL row up to L acts: the sender waits for the row or holds it (R36). -/
def Record.withdrawActs (r : Record) (k : Nat) (row : Row) : Bool := r.waitsFor k row || r.table.holds k row

/-- The record after a WITHDRAW: the waiting entry removed, or else the held row released (R36). -/
def Record.withdraw (r : Record) (k : Nat) (row : Row) : Record :=
  if r.waitsFor k row then
    { r with queue := r.queue.filter fun e => !(decide (e.station = k) && decide (e.row = row)) }
  else if r.table.holds k row then r.release row
  else r

/-! ### Round-start work (R42, R43) -/

/-- One lease falls by 1; at 0 its row is free (R42). -/
def countLease (g : Option Grant) : Option Grant :=
  match g with
  | none => none
  | some g => if g.lease ≤ 1 then none else some { g with lease := g.lease - 1 }

/-- The lease countdown of every held row (R42). -/
def ClaimTable.countLeases (t : ClaimTable) : ClaimTable :=
  { level1 := countLease t.level1, level2 := countLease t.level2, level3 := countLease t.level3
    level4 := countLease t.level4, level5 := countLease t.level5, level6 := countLease t.level6
    chute1 := countLease t.chute1, chute2 := countLease t.chute2, access := countLease t.access }

/-- An entry that has reached the wait limit when the ageing reaches it (R43). -/
def WaitEntry.timedOut (c : Settings) (e : WaitEntry) : Bool := decide (c.waitLimit.toNat ≤ e.age)

/-- The ageing of every waiting entry; one at the wait limit leaves (R43). -/
def ageQueue (c : Settings) (q : List WaitEntry) : List WaitEntry :=
  (q.filter fun e => !e.timedOut c).map fun e => { e with age := e.age + 1 }

/-- Leases counted and entries aged, before the scan (R41). -/
def Record.countRound (c : Settings) (r : Record) : Record :=
  { r with table := r.table.countLeases, queue := ageQueue c r.queue }

/-- The lease of a held row returned to its full length (R44). -/
def Record.renew (c : Settings) (r : Record) (row : Row) : Record :=
  { r with table := r.table.put row ((r.table.get row).map fun g => { g with lease := c.leaseLength.toNat }) }

/-- Founding: all rows free, nobody waiting (R25, R27, R32). -/
def Record.found (c : Settings) : Record :=
  { column := Column.found c.founding.toNat, table := ClaimTable.free, queue := [] }

end Sys2Proof.Machine
end

