-- ==== Sys2Proof/Machine/Formats.lean ====
section
/-! DEFINITION. The layouts of Formats, Pins and Ratings: the canonical encodings and their digests (R99, R173), the catch-up pieces (R106, R109), the frames on the line and their reception (R51–R54). -/

namespace Sys2Proof.Machine

/-- The bits of a field list, read as one number. -/
def packNat (fields : List (Nat × Nat)) : Nat := natOfBits (packFields fields)

/-- The bytes of a field list. -/
def packBytes (fields : List (Nat × Nat)) : List Byte := bytesOf (packFields fields)

/-- The fields of the given widths at the head of the bits. -/
def readFields : List Nat → List Bool → List Nat
  | [], _ => []
  | w :: ws, bits => natOfBits (bits.take w) :: readFields ws (bits.drop w)

/-! ### The record digest (R99, R176) -/

/-- The column flags of piece 0: HUNG, unverified, hang-up present, declaring chute (0 for chute 1, 1 for chute 2), wait count in 4 bits. -/
def columnFlags (r : Record) : List (Nat × Nat) :=
  let hung := r.column.hung.isSome.toNat
  [(1, hung), (1, r.column.unverified.toNat), (1, hung),
   (1, ((r.column.hung.map fun h => h.chute - 1).getD 0)), (4, r.queue.length)]

/-- The round stamp and the total at declaration of the hang-up record, zeros where absent. -/
def hangUpFields (r : Record) : List (Nat × Nat) :=
  [(16, (r.column.hung.map HangUp.stamp).getD 0), (24, (r.column.hung.map HangUp.total).getD 0)]

/-- Piece-0 bytes 0–10. -/
def columnFields (r : Record) : List (Nat × Nat) :=
  (8, r.column.lots.length) :: columnFlags r ++
    [(16, r.column.nextLot), (16, r.column.overdraw)] ++ hangUpFields r

/-- The 7 bytes of a lot. -/
def lotFields (l : Lot) : List (Nat × Nat) :=
  [(16, l.number), (2, kindCode l.kind), (3, l.source), (3, l.gradeClass), (16, l.tonnes),
   (1, l.held.isSome.toNat), (3, 0), (12, l.held.getD 0)]

/-- A claim row in the record digest: holder, purpose, reservation, zeros for a free row. -/
def rowDigestFields (g : Option Grant) : List (Nat × Nat) :=
  match g with
  | none => [(24, 0)]
  | some g => [(4, g.holder), (4, purposeCode g.purpose), (16, g.reservation)]

/-- A waiting entry in the record digest. -/
def waitDigestFields (e : WaitEntry) : List (Nat × Nat) :=
  [(4, e.station), (4, rowCode e.row), (8, purposeCode e.purpose), (16, e.reservation)]

/-- The canonical encoding of the pass record; leases, ages and the freeze tracker are not in it (R99). -/
def Record.encoding (r : Record) : List Bool :=
  packFields (columnFields r ++ r.column.lots.flatMap lotFields ++
    allRows.flatMap (fun row => rowDigestFields (r.table.get row)) ++ r.queue.flatMap waitDigestFields)

/-- The record digest (R99). -/
def Record.digest (r : Record) : Word16 := crc r.encoding

/-! ### The config digest (R173, R176) -/

/-- The canonical encoding of the shared items: plan length and entries up to it, L, the chokes with 0 above L, and the rest in the order of R176. An unwritten item counts as 0; CONFIG-DONE lets none through. -/
def Settings.encoding (c : Settings) : List Bool :=
  packFields
    ((8, c.planLength.toNat) ::
      ((c.plan.take c.planLength.toNat).map fun e => (32, (e.getD 0).toNat)) ++
      [(8, c.levels.toNat)] ++
      ([1, 2, 3, 4, 5, 6].map fun k => (16, if k ≤ c.levelCount then c.choke k else 0)) ++
      [(16, c.cushionTonnes), (16, c.tipReservation.toNat), (8, c.leaseLength.toNat),
       (8, c.waitLimit.toNat), (8, c.dropThreshold.toNat), (8, c.freezeLimit.toNat),
       (16, c.tolerance.toNat), (16, c.founding.toNat)])

/-- The config digest (R173). -/
def Settings.digest (c : Settings) : Word16 := crc c.encoding

/-! ### Catch-up pieces (R103, R106) -/

/-- Pieces of lots: ⌈lots ÷ 2⌉. -/
def lotPieces (lots : Nat) : Nat := (lots + 1) / 2

/-- Total pieces: 4 + ⌈lots ÷ 2⌉ + ⌈waiting entries ÷ 3⌉ (R103). -/
def totalPieces (lots waits : Nat) : Nat := 4 + lotPieces lots + (waits + 2) / 3

/-- A lot slot of a piece, zeros beyond the lots. -/
def lotSlot (l : Option Lot) : List (Nat × Nat) := (l.map lotFields).getD [(56, 0)]

/-- A claim slot of a piece: holder, purpose, lease, reservation. -/
def claimSlot (g : Option Grant) : List (Nat × Nat) :=
  match g with
  | none => [(28, 0)]
  | some g => [(4, g.holder), (4, purposeCode g.purpose), (8, g.lease), (12, g.reservation)]

/-- A wait slot of a piece: station, row, purpose, reservation, age. -/
def waitFields (e : WaitEntry) : List (Nat × Nat) :=
  [(4, e.station), (4, rowCode e.row), (4, purposeCode e.purpose), (12, e.reservation), (8, e.age)]

/-- A wait slot, zeros beyond the entries. -/
def waitSlot (e : Option WaitEntry) : List (Nat × Nat) := (e.map waitFields).getD [(32, 0)]

/-- The claim slot of the row at a place of the row order, zeros beyond the nine rows. -/
def rowSlot (t : ClaimTable) (i : Nat) : List (Nat × Nat) :=
  match allRows[i]? with
  | none => [(28, 0)]
  | some row => claimSlot (t.get row)

/-- The 14 content bytes of the piece with an index (R106). -/
def pieceFields (r : Record) (snap : Snapshot) (i : Nat) : List (Nat × Nat) :=
  let lp := lotPieces r.column.lots.length
  if i = 0 then columnFields r ++ [(16, snap.digest.toNat), (8, snap.totalPieces)]
  else if i ≤ lp then lotSlot r.column.lots[2 * (i - 1)]? ++ lotSlot r.column.lots[2 * (i - 1) + 1]?
  else if i ≤ lp + 3 then [0, 1, 2, 3].flatMap fun j => rowSlot r.table (4 * (i - lp - 1) + j)
  else ([0, 1, 2].flatMap fun j => waitSlot r.queue[3 * (i - lp - 4) + j]?) ++ [(16, 0)]

/-- The content of a piece as one vector. -/
def pieceContent (r : Record) (snap : Snapshot) (i : Nat) : BitVec 112 :=
  BitVec.ofNat 112 (packNat (pieceFields r snap i))

/-! ### Building a record from pieces (R109) -/

/-- All of the values, or nothing when one is absent. -/
def collect {α : Type} : List (Option α) → Option (List α)
  | [] => some []
  | none :: _ => none
  | some x :: xs => (collect xs).map fun ys => x :: ys

/-- The content bits of a stored piece, none where it is not held. -/
def storedBits (store : List StoredPiece) (i : Nat) : List Bool :=
  match store.find? fun p => p.index = i with
  | none => []
  | some p => bitsOf p.content

/-- Piece 0 as read. -/
structure ImageHeader where
  lotCount : Nat
  hung : Nat
  unverified : Nat
  hangPresent : Nat
  chuteCode : Nat
  waitCount : Nat
  nextLot : Nat
  overdraw : Nat
  stamp : Nat
  declared : Nat
  digest : Nat
  total : Nat
  deriving DecidableEq, Repr

/-- The fields of piece 0. -/
def readHeader (store : List StoredPiece) : ImageHeader :=
  match readFields [8, 1, 1, 1, 1, 4, 16, 16, 16, 24, 16, 8] (storedBits store 0) with
  | [a, b, c, d, e, f, g, h, i, j, k, l] =>
    { lotCount := a, hung := b, unverified := c, hangPresent := d, chuteCode := e, waitCount := f
      nextLot := g, overdraw := h, stamp := i, declared := j, digest := k, total := l }
  | _ =>
    { lotCount := 0, hung := 0, unverified := 0, hangPresent := 0, chuteCode := 0, waitCount := 0
      nextLot := 0, overdraw := 0, stamp := 0, declared := 0, digest := 0, total := 0 }

/-- A lot from its 7 bytes; fields outside the ranges of R3 and R4 describe no lot. -/
def readLot (bits : List Bool) : Option Lot :=
  match readFields [16, 2, 3, 3, 16, 1, 3, 12] bits with
  | [number, kind, source, grade, tonnes, isOpen, _, held] =>
    match kindOfCode kind with
    | none => none
    | some kind =>
      if source ≤ 6 ∧ (source = 0 ↔ kind = .found) ∧ (isOpen = 1 ↔ 1 ≤ held) ∧ (1 ≤ tonnes ∨ isOpen = 1) then
        some { number := number, kind := kind, source := source, gradeClass := grade, tonnes := tonnes
               held := if isOpen = 1 then some held else none }
      else none
  | _ => none

/-- The reservation a row or an entry may carry: 1–4095 on LEVEL rows, none on the others (R28, R32). -/
def reservationFits (row : Row) (n : Nat) : Bool := if isLevel row then decide (1 ≤ n) else decide (n = 0)

/-- A claim row from its slot: free, or a grant within the ranges of R28; anything else describes no row. -/
def readRow (c : Settings) (row : Row) (bits : List Bool) : Option (Option Grant) :=
  match readFields [4, 4, 8, 12] bits with
  | [holder, purpose, lease, reservation] =>
    if holder = 0 then some none
    else
      match purposeOfCode purpose with
      | none => none
      | some p =>
        if holder ≤ 12 ∧ claimMatches c row p = true ∧ 1 ≤ lease ∧ reservationFits row reservation = true then
          some (some { holder := holder, purpose := p, lease := lease, reservation := reservation })
        else none
  | _ => none

/-- A waiting entry from its slot, within the ranges of R32: its reservation is the configured tip reservation for a LEVEL row and 0 for any other. -/
def readWait (c : Settings) (bits : List Bool) : Option WaitEntry :=
  match readFields [4, 4, 4, 12, 8] bits with
  | [station, row, purpose, reservation, age] =>
    match rowOfCode row, purposeOfCode purpose with
    | some row, some p =>
      if 1 ≤ station ∧ station ≤ 12 ∧ claimMatches c row p = true ∧
          reservation = claimReservation c row ∧ age ≤ c.waitLimit.toNat then
        some { station := station, row := row, purpose := p, age := age, reservation := reservation }
      else none
    | _, _ => none
  | _ => none

/-- The slot of a width at a place among pieces that hold `per` slots each, from piece `first` on. -/
def slotBits (store : List StoredPiece) (first per width j : Nat) : List Bool :=
  ((storedBits store (first + j / per)).drop (width * (j % per))).take width

/-- The claim table from the nine rows in row order. -/
def tableOfRows : List (Option Grant) → Option ClaimTable
  | [a, b, c, d, e, f, g, h, i] =>
    some { level1 := a, level2 := b, level3 := c, level4 := d, level5 := e, level6 := f
           chute1 := g, chute2 := h, access := i }
  | _ => none

/-- No value twice. -/
def noRepeats : List Nat → Bool
  | [] => true
  | x :: xs => !xs.contains x && noRepeats xs

/-- The stations that hold rows, in row order. -/
def ClaimTable.holders (t : ClaimTable) : List Nat := allRows.filterMap fun r => (t.get r).map Grant.holder

/-- The laws of R3, R31 and R32 that relate the parts of a record. -/
def Record.lawful (r : Record) : Bool :=
  decide (r.column.lots.length + r.table.heldLevels ≤ 32) && decide (r.queue.length ≤ 8) &&
  noRepeats (r.column.lots.map Lot.number) &&
  noRepeats (r.table.holders ++ r.queue.map WaitEntry.station) &&
  (!r.table.held .access || allRows.all fun other => other = .access || !r.table.held other) &&
  (r.column.hung.isNone || (!r.table.held .chute1 && !r.table.held .chute2))

/-- The record the pieces describe, where they describe one: counts, ranges and laws hold (R109, inconsistent pieces). -/
def readImage (c : Settings) (store : List StoredPiece) : Option Record :=
  let h := readHeader store
  let lp := lotPieces h.lotCount
  if h.lotCount ≤ 32 ∧ h.waitCount ≤ 8 ∧ h.total = totalPieces h.lotCount h.waitCount ∧
      h.hung = h.hangPresent ∧ h.stamp ≤ 6143 ∧ h.declared ≤ 2097120 then
    match collect ((List.range h.lotCount).map fun j => readLot (slotBits store 1 2 56 j)),
        collect ((List.range 9).map fun j =>
          readRow c (allRows.getD j .access) (slotBits store (lp + 1) 4 28 j)),
        collect ((List.range h.waitCount).map fun j => readWait c (slotBits store (lp + 4) 3 32 j)) with
    | some lots, some rows, some waits =>
      match tableOfRows rows with
      | none => none
      | some table =>
        let r : Record :=
          { column :=
              { lots := lots
                hung := if h.hung = 1 then some { chute := h.chuteCode + 1, stamp := h.stamp, total := h.declared } else none
                unverified := decide (h.unverified = 1), overdraw := h.overdraw, nextLot := h.nextLot }
            table := table, queue := waits }
        if r.lawful then some r else none
    | _, _, _ => none
  else none

/-- The build of R109: the record, when the pieces are consistent and its digest is the snapshot digest of piece 0. -/
def buildImage (c : Settings) (store : List StoredPiece) : Option Record :=
  match readImage c store with
  | none => none
  | some r => if r.digest.toNat = (readHeader store).digest then some r else none

/-- The total pieces that piece 0 of the store gives, where it is held (R108). -/
def storeTotal (store : List StoredPiece) : Option Nat :=
  (store.find? fun p => p.index = 0).map fun _ => (readHeader store).total

/-- The store holds piece 0 and every index below the total pieces it gives (R108). -/
def storeComplete (store : List StoredPiece) : Bool :=
  match storeTotal store with
  | none => false
  | some n => (List.range n).all fun i => store.any fun p => p.index = i

/-! ### Frames on the line (R51–R53, Formats) -/

/-- A frame as its bits name it: kind code, sender, payload bits. -/
structure RawFrame where
  kind : Nat
  sender : Nat
  payload : List Bool
  deriving DecidableEq, Repr

/-- Identifier, length and payload, the part the check covers (R53). -/
def RawFrame.body (f : RawFrame) : List Bool :=
  fieldBits 4 f.kind ++ fieldBits 4 f.sender ++ fieldBits 5 (f.payload.length / 8) ++ f.payload

/-- The bits of the frame on the line: start bit, body and check with inserted bits, three end bits (R51). -/
def RawFrame.line (f : RawFrame) : List Bool :=
  stuff true 0 (false :: (f.body ++ bitsOf (crc f.body))) ++ [true, true, true]

/-- The payload of a STATUS frame. -/
def statusPayload (f : StatusFields) : List (Nat × Nat) :=
  [(3, f.link.toNat), (2, f.grade.toNat), (1, f.hold.toNat), (1, f.frozen.toNat), (1, 0),
   (2, f.role.toNat), (3, f.place.toNat), (3, 0), (16, f.digest.toNat), (16, f.config.toNat),
   (12, f.present.toNat), (9, f.holding.toNat), (3, 0)] ++
  match f.piece with
  | none => []
  | some p =>
    [(8, p.image.toNat), (8, p.index.toNat), (12, p.receivers.toNat), (4, 0), (8, p.remaining.toNat),
     (112, p.content.toNat)]

/-- The frame a frame command stands for, as its bits name it; none for a command that is no frame. -/
def frameOf (i : Instr) : Option RawFrame :=
  let raw (kind : Nat) (sender : BitVec 4) (fields : List (Nat × Nat)) : Option RawFrame :=
    some { kind := kind, sender := sender.toNat, payload := packFields fields }
  match i with
  | .openingFrame k round seq paused config =>
    raw 0 k [(8, round.toNat), (8, seq.toNat), (7, 0), (1, paused.toNat), (16, config.toNat)]
  | .hangupFrame k chute => raw 1 k [(8, chute.toNat)]
  | .unhangFrame k chute => raw 2 k [(8, chute.toNat)]
  | .releaseFrame k row => raw 3 k [(8, row.toNat)]
  | .withdrawFrame k row => raw 4 k [(8, row.toNat)]
  | .drawFrame k chute tonnes => raw 5 k [(8, chute.toNat), (16, tonnes.toNat)]
  | .lotInFrame k level tonnes held grade =>
    raw 6 k [(8, level.toNat), (12, tonnes.toNat), (12, held.toNat), (8, grade.toNat)]
  | .brokenFrame k level cleared passed =>
    raw 7 k [(8, level.toNat), (1, cleared.toNat), (3, 0), (12, passed.toNat)]
  | .sightingFrame k measured => raw 8 k [(16, measured.toNat)]
  | .claimFrame k row purpose => raw 9 k [(8, row.toNat), (8, purpose.toNat)]
  | .catchupFrame k provider => raw 10 k [(8, provider.toNat)]
  | .caughtFrame k outcome => raw 11 k [(8, outcome.toNat)]
  | .statusFrame k fields _ => raw 12 k (statusPayload fields)
  | _ => none

/-- The fields of a STATUS payload of 9 or 28 bytes. -/
def readStatus (bits : List Bool) : Option StatusFields :=
  match readFields [3, 2, 1, 1, 1, 2, 3, 3, 16, 16, 12, 9, 3, 8, 8, 12, 4, 8, 112] bits with
  | [link, grade, hold, frozen, _, role, place, _, digest, config, present, holding, _,
      image, index, receivers, _, remaining, content] =>
    some
      { link := link, grade := grade, hold := decide (hold = 1), frozen := decide (frozen = 1)
        role := role, place := place, digest := digest, config := config, present := present
        holding := holding
        piece :=
          if 72 < bits.length then
            some { image := image, index := index, receivers := receivers, remaining := remaining, content := content }
          else none }
  | _ => none

/-- The command a valid frame stands for, its payload decoded by the layouts (R176); `time` is the round time at its application. -/
def commandOf (time : Nat) (f : RawFrame) : Option Instr :=
  let k : BitVec 4 := BitVec.ofNat 4 f.sender
  match f.kind with
  | 0 =>
    match readFields [8, 8, 7, 1, 16] f.payload with
    | [round, seq, _, paused, config] => some (.openingFrame k round seq (decide (paused = 1)) config)
    | _ => none
  | 1 => some (.hangupFrame k (takeField 8 f.payload))
  | 2 => some (.unhangFrame k (takeField 8 f.payload))
  | 3 => some (.releaseFrame k (takeField 8 f.payload))
  | 4 => some (.withdrawFrame k (takeField 8 f.payload))
  | 5 => some (.drawFrame k (takeField 8 f.payload) (takeField 16 (f.payload.drop 8)))
  | 6 =>
    match readFields [8, 12, 12, 8] f.payload with
    | [level, tonnes, held, grade] => some (.lotInFrame k level tonnes held grade)
    | _ => none
  | 7 =>
    match readFields [8, 1, 3, 12] f.payload with
    | [level, cleared, _, passed] => some (.brokenFrame k level (decide (cleared = 1)) passed)
    | _ => none
  | 8 => some (.sightingFrame k (takeField 16 f.payload))
  | 9 => some (.claimFrame k (takeField 8 f.payload) (takeField 8 (f.payload.drop 8)))
  | 10 => some (.catchupFrame k (takeField 8 f.payload))
  | 11 => some (.caughtFrame k (takeField 8 f.payload))
  | 12 => (readStatus f.payload).map fun fields => .statusFrame k fields time
  | _ => none

/-! ### Reception (R54) -/

/-- The reasons of R54, in the order of its tests. -/
inductive DiscardReason where
  | codingError | endError | crcError | unassignedKind | invalidSender | lengthError | ownNumber
  deriving DecidableEq, Repr

/-- What a receiver finds in the bits it read. -/
inductive Judged where
  | valid (frame : RawFrame)
  | discarded (reason : DiscardReason)
  deriving DecidableEq, Repr

/-- The payload lengths a kind allows, in bytes (R52). -/
def lengthAllowed (kind bytes : Nat) : Bool :=
  match kind with
  | 0 => bytes = 5 | 1 => bytes = 1 | 2 => bytes = 1 | 3 => bytes = 1 | 4 => bytes = 1
  | 5 => bytes = 3 | 6 => bytes = 5 | 7 => bytes = 3 | 8 => bytes = 2 | 9 => bytes = 2
  | 10 => bytes = 1 | 11 => bytes = 1 | 12 => bytes = 9 || bytes = 28
  | _ => false

/-- The tests of R54 in order, on the line bits from the start bit on; past the last bit given the line is recessive. -/
def judge (own : Nat) (bits : List Bool) : Judged :=
  match unstuff 14 true 0 (bits ++ List.replicate 12 true) with
  | none => .discarded .codingError
  | some head =>
    let bytes := natOfBits (head.bits.drop 9)
    match unstuff (8 * bytes + 16) head.last head.run head.rest with
    | none => .discarded .codingError
    | some tail =>
      let body := head.bits.drop 1 ++ tail.bits.take (8 * bytes)
      let kind := natOfBits ((head.bits.drop 1).take 4)
      let sender := natOfBits ((head.bits.drop 5).take 4)
      if !(tail.rest.take 3).all id then .discarded .endError
      else if crc body ≠ takeField 16 (tail.bits.drop (8 * bytes)) then .discarded .crcError
      else if 12 < kind then .discarded .unassignedKind
      else if sender = 0 ∨ 12 < sender then .discarded .invalidSender
      else if !lengthAllowed kind bytes then .discarded .lengthError
      else if sender = own then .discarded .ownNumber
      else .valid { kind := kind, sender := sender, payload := tail.bits.take (8 * bytes) }

end Sys2Proof.Machine
end

