-- ==== Sys2Proof/Machine/Ops.lean ====
section
/-! DEFINITION. The shared operations on the event transmit queue (R60–R64), on the pass record with its derived values (R9–R11), and on the outputs. Every operation is a function of the whole station. -/

namespace Sys2Proof.Machine

/-! ### The event transmit queue -/

/-- The frame is a CATCHUP or CAUGHT, for which one place of the queue is kept (R60). -/
def EventFrame.isCatchup : EventFrame → Bool
  | .catchup _ | .caught _ => true
  | .hangup _ | .unhang _ | .release _ | .withdraw _ | .draw _ _ | .lotIn _ _ _ _ | .broken _ _ _
  | .sighting _ | .claim _ _ => false

/-- The frame is a CLAIM. -/
def EventFrame.isClaim : EventFrame → Bool
  | .claim _ _ => true
  | .hangup _ | .unhang _ | .release _ | .withdraw _ | .draw _ _ | .lotIn _ _ _ _ | .broken _ _ _
  | .sighting _ | .catchup _ | .caught _ => false

/-- The frame is a CLAIM for the row. -/
def EventFrame.isClaimFor (row : Row) : EventFrame → Bool
  | .claim r _ => decide (r = row)
  | .hangup _ | .unhang _ | .release _ | .withdraw _ | .draw _ _ | .lotIn _ _ _ _ | .broken _ _ _
  | .sighting _ | .catchup _ | .caught _ => false

/-- The frame is a SIGHTING. -/
def EventFrame.isSighting : EventFrame → Bool
  | .sighting _ => true
  | .hangup _ | .unhang _ | .release _ | .withdraw _ | .draw _ _ | .lotIn _ _ _ _ | .broken _ _ _
  | .claim _ _ | .catchup _ | .caught _ => false

/-- The frame is a CAUGHT. -/
def EventFrame.isCaught : EventFrame → Bool
  | .caught _ => true
  | .hangup _ | .unhang _ | .release _ | .withdraw _ | .draw _ _ | .lotIn _ _ _ _ | .broken _ _ _
  | .claim _ _ | .catchup _ | .sighting _ => false

/-- The tonnes of a DRAW frame. -/
def EventFrame.drawTonnes : EventFrame → Option Nat
  | .draw _ n => some n
  | .hangup _ | .unhang _ | .release _ | .withdraw _ | .lotIn _ _ _ _ | .broken _ _ _
  | .sighting _ | .claim _ _ | .catchup _ | .caught _ => none

/-- The number of frames other than CATCHUP and CAUGHT frames. -/
def eventCount (q : List EventFrame) : Nat := (q.filter fun f => !f.isCatchup).length

/-- The LKC takes an offer of a frame other than a DRAW: fewer than 8 frames, or for a catch-up frame its own place free, and never in HALTED (R60). -/
def State.takes (s : State) (f : EventFrame) : Bool :=
  decide (s.rsc.link ≠ .halted) &&
  if f.isCatchup then !(s.lkc.queue.any EventFrame.isCatchup) else decide (eventCount s.lkc.queue < 8)

/-- A frame joins at the newest end. -/
def enqueue (f : EventFrame) (s : State) : State :=
  { s with lkc := { s.lkc with queue := s.lkc.queue ++ [f] } }

/-- An offer that is dropped when it is refused (a WITHDRAW of a block's own accord, R60). -/
def offerOrDrop (f : EventFrame) (s : State) : State := if s.takes f then enqueue f s else s

/-- The head frame left the queue: its loss count restarts and STARVED ends (R64). -/
def headLeft (s : State) : State := clearCondition .starved { s with lkc := { s.lkc with losses := 0 } }

/-- The first frame equal to f leaves the queue. -/
def dequeue (f : EventFrame) (s : State) : State :=
  let left := { s with lkc := { s.lkc with queue := s.lkc.queue.erase f } }
  if s.lkc.queue.head? = some f then headLeft left else left

/-- The claim-in-queue flag of an activity is cleared when no CLAIM for its row is left in the queue (R115, R130, R170; log 11). -/
def refreshClaimFlags (s : State) : State :=
  let waits (row : Option Row) : Bool :=
    match row with
    | none => false
    | some r => s.lkc.queue.any (EventFrame.isClaimFor r)
  { s with
    tbs := { s.tbs with claimInQueue := s.tbs.claimInQueue && waits s.ownRow }
    dre := { s.dre with claimInQueue := s.dre.claimInQueue && waits s.ownRow }
    lpt := { s.lpt with accessClaim := s.lpt.accessClaim && waits (some .access) } }

/-! ### The DRAW frame (R63) -/

/-- The tonnes of the queued DRAW frame, if any. -/
def queuedDraw (q : List EventFrame) : Option Nat := q.findSome? EventFrame.drawTonnes

/-- The DRAW frames of a queue with tonnes added in place. -/
def addToDraw (n : Nat) (q : List EventFrame) : List EventFrame :=
  q.map fun f =>
    match f.drawTonnes, f with
    | some t, .draw j _ => .draw j (t + n)
    | _, f => f

/-- The station is sending its DRAW frame. -/
def State.sendingDraw (s : State) : Bool :=
  match s.lkc.sending with
  | some (.event f) => f.drawTonnes.isSome
  | some (.status _) | some (.opening _ _ _ _) | none => false

/-- The tonnes of an offer of n that the LKC takes (R63). -/
def State.drawTaken (s : State) (n : Nat) : Nat :=
  match queuedDraw s.lkc.queue with
  | some t => if s.sendingDraw || decide (s.rsc.link = .halted) then 0 else min n (4095 - t)
  | none => if s.takes (.draw s.place n) then min n 4095 else 0

/-- The DRE offers its unannounced tonnes: what is taken moves to the queued tonnes, the rest stays (R63, R138). -/
def offerDraw (s : State) : State :=
  let n := s.drawTaken s.dre.unannounced
  if n = 0 then s
  else
    let moved := { s with dre := { s.dre with unannounced := s.dre.unannounced - n, queued := s.dre.queued + n } }
    if (queuedDraw s.lkc.queue).isSome then
      { moved with lkc := { moved.lkc with queue := addToDraw n moved.lkc.queue } }
    else enqueue (.draw s.place n) moved

/-! ### The pass record -/

/-- The record takes a new value, and the CHOKE notice is set where the choke set differs (R10). -/
def changeRecord (r : Record) (s : State) : State :=
  setNoticeIf (decide (chokeSetOf s.settings (some r) ≠ chokeSetOf s.settings s.record)) .choke
    { s with record := some r }

/-- A new record, with the COLUMN notice where any lot or column-wide field changed (R11). -/
def changeColumn (r : Record) (s : State) : State :=
  setNoticeIf (decide (s.record.map Record.column ≠ some r.column)) .column (changeRecord r s)

/-- A station holds a row in the station's record. -/
def State.recordHolds (s : State) (k : Nat) (row : Row) : Bool :=
  s.record.any fun r => r.table.holds k row

/-- The station holds the row of its place in its own record. -/
def State.holdsOwnRow (s : State) : Bool := s.ownRow.any fun row => s.recordHolds s.station row

/-! ### The link state -/

/-- A change of link state sets the STATE notice (R83). -/
def setLink (l : LinkState) (s : State) : State :=
  setNoticeIf (decide (s.rsc.link ≠ l)) .state { s with rsc := { s.rsc with link := l } }

/-! ### Outputs (R126, R134, R150) -/

/-- A LINE-OUT channel is commanded: at a change the grace count restarts (on entry to HALTED too, log 45) and the pin is driven to the level, which the sense input shows at once (R150; log 44). -/
def Channel.command (on : Bool) (ch : Channel) : Channel :=
  if ch.commanded = on then ch
  else { ch with commanded := on, graceCount := 0, pin := on == ch.highIsOn }

/-- The channel is a LINE-OUT bound to the function. -/
def Channel.drives (f : Func) (ch : Channel) : Bool :=
  ch.modeIs .lineOut && decide (ch.binding.toNat = funcCode f)

/-- Every channel changed by one rule. -/
def mapChannels (g : Channel → Channel) (s : State) : State :=
  { s with fca := { s.fca with channels := s.fca.channels.map g } }

/-- A function commands its level to the channel bound to it, or to each where OFFLINE has bound several (log 40); in HALTED every output stays off (R150). -/
def commandFunc (f : Func) (on : Bool) (s : State) : State :=
  if s.rsc.link = .halted then s
  else mapChannels (fun ch => if ch.drives f then ch.command on else ch) s

/-- The conditions of R126 for PERMIT-LAMP and HAMMER-ENABLE. -/
def State.outputTerms (s : State) : Bool :=
  (decide (s.role = .tip) || decide (s.role = .breaker)) && decide (s.tbs.state = .granted) &&
  decide (s.rsc.link = .inStep) && !s.standsPaused && !s.holdLine && decide (s.grade < 2) &&
  s.columnNormal

/-- The TBS commands its output anew; a change reaches the bound channel (R126, R127). -/
def commandSequencer (s : State) : State :=
  let on := s.outputTerms
  let f : Func := if s.role = .breaker then .hammerEnable else .permitLamp
  if s.tbs.output = on then s else commandFunc f on { s with tbs := { s.tbs with output := on } }

/-- The open valve is on in an opening stroke, the close valve in a closing stroke, both off in HALTED (R133, R134). -/
def State.valveOn (s : State) (stroke : GateState) : Bool :=
  decide (s.dre.gate = stroke) && decide (s.rsc.link ≠ .halted)

/-- The DRE commands its open valve anew (R133). -/
def commandOpenValve (s : State) : State :=
  let on := s.valveOn .opening
  if s.dre.openValve = on then s
  else commandFunc .gateOpenValve on { s with dre := { s.dre with openValve := on } }

/-- The DRE commands its close valve anew (R133). -/
def commandCloseValve (s : State) : State :=
  let on := s.valveOn .closing
  if s.dre.closeValve = on then s
  else commandFunc .gateCloseValve on { s with dre := { s.dre with closeValve := on } }

/-- All commanded outputs of the activities. -/
def commandOutputs (s : State) : State := commandCloseValve (commandOpenValve (commandSequencer s))

/-- Every function's level goes to its channel whether or not it changed: at RESTART, ENTER-CONFIG and CONFIG-DONE (R155). -/
def driveOutputs (s : State) : State :=
  commandFunc .gateCloseValve s.dre.closeValve
    (commandFunc .gateOpenValve s.dre.openValve
      (commandFunc .hammerEnable (s.tbs.output && decide (s.role = .breaker))
        (commandFunc .permitLamp (s.tbs.output && decide (s.role = .tip)) s)))

/-- Entering HALTED commands every LINE-OUT channel off, bound and LOCAL alike (R150); the grace count of one that was on restarts, that of one already off is kept (R155; log 45). -/
def allOutputsOff (s : State) : State :=
  mapChannels (fun ch => if ch.modeIs .lineOut then ch.command false else ch) s

end Sys2Proof.Machine
end

