-- ==== Sys2Proof/Machine/Engine.lean ====
section
/-! DEFINITION. The Draw Engine's own transitions: the gate (R133, R134), the order buffer (R131, R135, R136), outcomes handed to it (R132, R138), hang-ups (R140), suspension (R141) and the grade (R143). -/

namespace Sys2Proof.Machine

/-! ### The gate (R133) -/

/-- The terms of the law of R134. -/
def State.gateTerms (s : State) : Bool :=
  decide (s.role = .chute) && s.holdsOwnRow && decide (s.rsc.link = .inStep) && !s.standsPaused &&
  !s.holdLine && decide (s.grade < 2) && s.columnNormal

/-- The gate changes state, with the GATE notice (R133). -/
def setGate (g : GateState) (s : State) : State :=
  setNoticeIf (decide (s.dre.gate ≠ g)) .gate { s with dre := { s.dre with gate := g } }

/-- The gate becomes OPEN; in RUNNING the flow watch restarts (R135). -/
def gateOpened (s : State) : State :=
  setGate .isOpen
    { s with dre := { s.dre with flowWatch := if s.dre.state = .running then 0 else s.dre.flowWatch } }

/-- A stroke ends when its limit reads asserted; in HALTED the gate stays as it stood (R133, R134). -/
def gateLimits (s : State) : State :=
  if s.rsc.link = .halted then s
  else
    match s.dre.gate with
    | .opening => if s.asserted .gateOpenLimit then gateOpened s else s
    | .closing => if s.asserted .gateShutLimit then setGate .shut s else s
    | .shut | .isOpen | .stuck => s

/-- A stroke begins with stroke count 0, and ends at once at a limit already asserted (R133). -/
def startStroke (g : GateState) (s : State) : State :=
  gateLimits (setGate g { s with dre := { s.dre with strokeCount := 0 } })

/-- The close command (R133). -/
def closeCommand (s : State) : State :=
  if s.rsc.link = .halted then s
  else
    match s.dre.gate with
    | .opening | .isOpen => startStroke .closing s
    | .shut | .closing | .stuck => s

/-- The open command, given only while every term of R134 holds. -/
def openCommand (s : State) : State :=
  if !s.gateTerms then s
  else
    match s.dre.gate with
    | .shut | .closing => startStroke .opening s
    | .opening | .isOpen | .stuck => s

/-! ### Orders (R131, R135, R136) -/

/-- A cause of suspension stands (R141). -/
def State.causeStands (s : State) : Bool :=
  s.standsPaused || s.holdLine || decide (s.rsc.link = .catchup)

/-- The engine state changes; it carries no notice. -/
def setEngine (e : EngineState) (s : State) : State := { s with dre := { s.dre with state := e } }

/-- An order as it stands at its start: 0 drawn tonnes, or all its rounds left (R131). -/
def freshOrder : Order → Order
  | .draw target _ => .draw target 0
  | .dwell amount _ => .dwell amount amount

/-- The current order starts (R135). -/
def startOrder (s : State) : State :=
  match s.dre.current with
  | none => s
  | some o =>
    let s := { s with dre := { s.dre with current := some (freshOrder o) } }
    if s.causeStands then closeCommand (setEngine .suspended s)
    else
      match o with
      | .draw _ _ => openCommand (setEngine .running s)
      | .dwell _ _ => closeCommand (setEngine .dwelling s)

/-- A RELEASE of the row of the station's place, offered of the engine's own accord and kept where refused (R60); one that is kept already stands for both (log 39). -/
def offerRelease (s : State) : State :=
  match s.ownRow with
  | none => s
  | some row =>
    if s.takes (.release row) then enqueue (.release row) s
    else { s with dre := { s.dre with keptRelease := true } }

/-- The RELEASE that ends the engine's use of its row, with release pending (R136, R142, R143). -/
def releaseRow (s : State) : State :=
  offerRelease { s with dre := { s.dre with releasePending := true } }

/-- A WITHDRAW of the row of the station's place; one that finds the queue full is not offered again (R60). -/
def withdrawRow (s : State) : State :=
  match s.ownRow with
  | none => s
  | some row => offerOrDrop (.withdraw row) s

/-- All orders end with an outcome; ORDER-DONE is set once where there was one (R132). -/
def endOrders (o : OrderOutcome) (s : State) : State :=
  match s.dre.current with
  | none => s
  | some _ =>
    setNotice .orderDone { s with dre := { s.dre with current := none, next := none, lastOutcome := o } }

/-- The current order ends with COMPLETE or CUSHION and the next order moves up and starts, or the engine gives its row back (R136). -/
def endCurrent (o : OrderOutcome) (s : State) : State :=
  let s := setNotice .orderDone { s with dre := { s.dre with lastOutcome := o } }
  match s.dre.next with
  | some n =>
    startOrder (setNotice .orderRoom { s with dre := { s.dre with current := some n, next := none } })
  | none =>
    releaseRow (setEngine .idle (closeCommand { s with dre := { s.dre with current := none } }))

/-- The cushion test fails: the total less the effective cushion, the unannounced and the queued tonnes is 0 or less (R136). -/
def State.cushionFails (s : State) : Bool :=
  match s.record with
  | none => false
  | some r =>
    decide (r.column.total ≤ r.effectiveCushion s.settings + s.dre.unannounced + s.dre.queued)

/-- The engine stands in RUNNING or SUSPENDED with a DRAW current. -/
def State.drawing (s : State) : Bool :=
  (decide (s.dre.state = .running) || decide (s.dre.state = .suspended)) &&
  match s.dre.current with
  | some (.draw _ _) => true
  | some (.dwell _ _) | none => false

/-- One cushion test. -/
def cushionStop (s : State) : State :=
  if s.drawing && s.cushionFails then endCurrent .cushion s else s

/-- The cushion test, and the test at once of a DRAW order that moves up; the buffer holds two orders, so two tests are all (R136). -/
def cushionTest (s : State) : State := cushionStop (cushionStop s)

/-- A DRAW order whose drawn tonnes have reached its target ends with COMPLETE (R136). -/
def completeDraw (s : State) : State :=
  match s.dre.current with
  | some (.draw target drawn) => if s.drawing && decide (target ≤ drawn) then endCurrent .complete s else s
  | some (.dwell _ _) | none => s

/-! ### Outcomes handed to the engine -/

/-- The engine's claim in queue is cleared (R130, R132). -/
def clearEngineClaim (s : State) : State := { s with dre := { s.dre with claimInQueue := false } }

/-- The engine asks and its own CLAIM has been applied; while that CLAIM is in the queue an outcome is that of a stray one, settled as for the sequencer (R121, R132; log 42). -/
def State.engineAwaits (s : State) : Bool := decide (s.dre.state = .asking) && !s.dre.claimInQueue

/-- GRANTED at the CLAIM's application or at a scan (R132, R135). -/
def engineGranted (s : State) : State := if s.engineAwaits then cushionTest (startOrder s) else s

/-- REFUSED at the CLAIM's application or at the wait limit (R132). -/
def engineRefused (s : State) : State :=
  if s.engineAwaits then setEngine .idle (endOrders .lost s) else s

/-- REFUSED for a CLAIM discarded under grade G2: FAULTED, or IDLE when WATCH alone holds the grade (R132). -/
def engineDiscarded (s : State) : State :=
  if s.dre.state = .asking then
    setEngine (if 2 ≤ s.gradeLessWatch then .faulted else .idle) (endOrders .fault s)
  else s

/-- LOST: release pending is cleared in every case, and an engine with its row in use gives it up (R137, R138). -/
def engineLost (s : State) : State :=
  let s := { s with dre := { s.dre with releasePending := false } }
  match s.dre.state with
  | .running | .dwelling | .suspended => setEngine .idle (closeCommand (endOrders .lost s))
  | .idle | .asking | .hung | .faulted => s

/-! ### Hang-ups (R140) -/

/-- The engine takes a hang-up (R140). -/
def engineHungUp (s : State) : State :=
  if s.role ≠ .chute then s
  else
    match s.dre.state with
    | .hung | .faulted => s
    | .asking => setEngine .hung (withdrawRow (closeCommand (endOrders .hung s)))
    | .idle | .running | .dwelling | .suspended => setEngine .hung (closeCommand (endOrders .hung s))

/-- The engine leaves HUNG when the column is NORMAL and no own hang-up is pending: to IDLE below G2, else to FAULTED (R140). -/
def engineFreed (s : State) : State :=
  if s.dre.state = .hung ∧ s.columnNormal = true ∧ s.dre.ownHangup = false then
    setEngine (if s.grade < 2 then .idle else .faulted) s
  else s

/-- After a change to the station's record, the engine takes the column's state (R140). -/
def engineReadsColumn (s : State) : State := if s.columnHung then engineHungUp s else engineFreed s

/-- The engine declares a hang-up (R139). -/
def declareHangup (s : State) : State :=
  let offered :=
    if s.takes (.hangup s.place) then enqueue (.hangup s.place) s
    else { s with dre := { s.dre with keptHangup := true } }
  setEngine .hung
    (endOrders .hung (closeCommand { offered with dre := { offered.dre with ownHangup := true } }))

/-! ### Suspension (R141) -/

/-- A cause that begins suspends a RUNNING or DWELLING engine; when the last cause ends the engine resumes under its current order (R141). -/
def engineCauses (s : State) : State :=
  if s.rsc.link = .halted then s
  else
    match s.dre.state with
    | .running | .dwelling => if s.causeStands then closeCommand (setEngine .suspended s) else s
    | .suspended =>
      if s.causeStands then s
      else
        match s.dre.current with
        | some (.draw _ _) => openCommand (setEngine .running s)
        | some (.dwell _ _) => setEngine .dwelling s
        | none => s
    | .idle | .asking | .hung | .faulted => s

/-! ### The grade (R143) -/

/-- The grade rises to G2 or above through a condition other than WATCH (R143). -/
def engineRise (s : State) : State :=
  if s.role ≠ .chute ∨ s.rsc.link = .halted then s
  else
    match s.dre.state with
    | .idle => setEngine .faulted (closeCommand s)
    | .asking =>
      let s := setEngine .faulted (endOrders .fault s)
      if s.dre.claimInQueue then s else withdrawRow s
    | .running | .dwelling | .suspended =>
      setEngine .faulted (releaseRow (closeCommand (endOrders .fault s)))
    | .hung | .faulted => s

/-- Entering HALTED: orders end with FAULT and the engine of a CHUTE station is FAULTED; the gate stays as it stood (R143). -/
def engineHalted (s : State) : State :=
  if s.role = .chute then setEngine .faulted (endOrders .fault s) else s

/-- The engine leaves FAULTED when no condition but WATCH holds the grade at G2 or above and the gate is SHUT (R143). -/
def engineUnfault (s : State) : State :=
  if s.dre.state = .faulted ∧ s.gradeLessWatch < 2 ∧ s.dre.gate = .shut ∧ s.rsc.link ≠ .halted then
    setEngine (if s.columnHung then .hung else .idle) s
  else s

/-- An event that turns a term of R134 false gives a close command in the same step. -/
def gateLaw (s : State) : State := if s.gateTerms then s else
  match s.dre.gate with
  | .opening | .isOpen => closeCommand s
  | .shut | .closing | .stuck => s

end Sys2Proof.Machine
end

