-- ==== Sys2Proof/Machine/Outcomes.lean ====
section
/-! DEFINITION. Outcomes of the station's own claims handed to the activities (R34, R117, R120–R122, R132, R138, R171), the scan (R37, R38), and what the activities read from an installed record (R123, R141, R171). -/

namespace Sys2Proof.Machine

/-! ### The sequencer -/

/-- The outcomes the PRU and the LKC hand to an activity (R34). -/
inductive Handed where
  | granted | refused | lost
  deriving DecidableEq, Repr

/-- GRANTED and REFUSED move an ASKING sequencer, LOST a GRANTED one; every other pair changes nothing (R117, R120–R122). While the session's own CLAIM is in the queue the outcome is that of a stray CLAIM or entry, and the session goes on asking (R121; log 42). -/
def Tbs.handed (h : Handed) (t : Tbs) : Tbs :=
  match h, t.state with
  | .granted, .asking => if t.claimInQueue then t else { t with state := .granted, lastResult := .granted }
  | .refused, .asking => if t.claimInQueue then t else { t with state := .idle, lastResult := .refused }
  | .lost, .granted => { t with state := .idle, lastResult := .lost }
  | .granted, .idle | .granted, .granted | .granted, .ending => t
  | .refused, .idle | .refused, .granted | .refused, .ending => t
  | .lost, .idle | .lost, .asking | .lost, .ending => t

/-- The access sub-state's part (R171); a stray outcome is told from its own as at the sequencer (log 42). -/
def Lpt.accessHanded (h : Handed) (l : Lpt) : Lpt :=
  match h, l.access with
  | .granted, .asking => if l.accessClaim then l else { l with access := .held }
  | .refused, .asking => if l.accessClaim then l else { l with access := .idle }
  | .lost, .held => { l with access := .idle }
  | .granted, .idle | .granted, .held => l
  | .refused, .idle | .refused, .held => l
  | .lost, .idle | .lost, .asking => l

/-- The notice that goes with an outcome (R34, R35). -/
def handedNotice : Handed → Notice
  | .granted => .granted
  | .refused => .refused
  | .lost => .lost

/-- The engine's part of an outcome handed by the PRU (R132, R138). -/
def engineHanded (h : Handed) (s : State) : State :=
  match h with
  | .granted => engineGranted s
  | .refused => engineRefused s
  | .lost => engineLost s

/-- The PRU hands an outcome to the activity that owns the row, with the notice (R34, R35). -/
def hand (h : Handed) (row : Row) (s : State) : State :=
  let s := setNotice (handedNotice h) s
  match row with
  | .level1 | .level2 | .level3 | .level4 | .level5 | .level6 => { s with tbs := s.tbs.handed h }
  | .chute1 | .chute2 => engineHanded h s
  | .access => { s with lpt := s.lpt.accessHanded h }

/-- LOST for each of the station's own rows among those released. -/
def handLost (rows : List Row) (s : State) : State := rows.foldl (fun s row => hand .lost row s) s

/-- REFUSED for each of the station's own entries removed. -/
def handRefused (entries : List WaitEntry) (s : State) : State :=
  entries.foldl (fun s e => hand .refused e.row s) s

/-- GRANTED for each of the station's own entries granted. -/
def handGranted (entries : List WaitEntry) (s : State) : State :=
  entries.foldl (fun s e => hand .granted e.row s) s

/-- The entries of the station itself. -/
def ownEntries (k : Nat) (q : List WaitEntry) : List WaitEntry := q.filter fun e => e.station = k

/-! ### The scan -/

/-- The scan at the end of an application or of the claim work: not in a paused round and not while frozen (R37). -/
def runScan (s : State) : State :=
  match s.record with
  | none => s
  | some r =>
    if s.rsc.paused || s.frozen then s
    else handGranted (ownEntries s.station (r.scan s.settings).granted) (changeRecord (r.scanned s.settings) s)

/-! ### The installed record, read on the return to IN-STEP -/

/-- The station has a waiting entry for the row in its record. -/
def State.recordWaits (s : State) (row : Row) : Bool := s.record.any fun r => r.waitsFor s.station row

/-- The sequencer's reading (R123). -/
def sequencerReads (s : State) : State :=
  match s.ownRow with
  | none => s
  | some row =>
    let holds := s.recordHolds s.station row
    match s.tbs.state with
    | .granted => if holds then s else setNotice .lost { s with tbs := s.tbs.handed .lost }
    | .asking =>
      if s.tbs.claimInQueue then s
      else if holds then setNotice .granted { s with tbs := s.tbs.handed .granted }
      else if s.recordWaits row then s
      else setNotice .refused { s with tbs := s.tbs.handed .refused }
    | .idle | .ending => s

/-- The access sub-state's reading (R171). -/
def accessReads (s : State) : State :=
  let holds := s.recordHolds s.station .access
  match s.lpt.access with
  | .held => if holds then s else setNotice .lost { s with lpt := { s.lpt with access := .idle } }
  | .asking =>
    if s.lpt.accessClaim then s
    else if holds then setNotice .granted { s with lpt := { s.lpt with access := .held } }
    else if s.recordWaits .access then s
    else setNotice .refused { s with lpt := { s.lpt with access := .idle } }
  | .idle => s

/-- The engine's reading (R141): no notice of the PRU goes with it, orders that end set ORDER-DONE. -/
def engineReads (s : State) : State :=
  match s.ownRow with
  | none => s
  | some row =>
    if s.role ≠ .chute then s
    else
      let holds := s.recordHolds s.station row
      match s.dre.state with
      | .suspended => if holds then s else setEngine .idle (closeCommand (endOrders .lost s))
      | .asking =>
        if s.dre.claimInQueue then s
        else if holds then cushionTest (startOrder s)
        else if s.recordWaits row then s
        else setEngine .idle (endOrders .lost s)
      | .idle => if holds then s else { s with dre := { s.dre with releasePending := false } }
      | .running | .dwelling | .hung | .faulted => s

/-- All three activities read the installed record; then the cushion is tested and a column shown HUNG is taken (R123, R136, R141, R171). -/
def readInstalled (s : State) : State :=
  engineReadsColumn (cushionTest (engineReads (accessReads (sequencerReads s))))

end Sys2Proof.Machine
end

