-- ==== Sys2Proof/Machine/Faults.lean ====
section
/-! DEFINITION. Raising a fault condition with what a rise of the grade brings (R62, R90, R143, R159, R161), and the end of every step, at which the activities take the terms the step leaves (R127, R134, R141, R160). -/

namespace Sys2Proof.Machine

/-! ### CLAIM frames discarded under grade G2 (R62) -/

/-- The queue less its CLAIM frames, but for the one on the line, which is finished (R62). -/
def withoutClaims : Option EventFrame → List EventFrame → List EventFrame
  | _, [] => []
  | sent, f :: fs =>
    if f.isClaim then
      if some f = sent then f :: withoutClaims none fs else withoutClaims sent fs
    else f :: withoutClaims sent fs

/-- The rows of the CLAIM frames that `withoutClaims` leaves out. -/
def discardedRows : Option EventFrame → List EventFrame → List Row
  | _, [] => []
  | sent, f :: fs =>
    match f with
    | .claim row _ => if some f = sent then discardedRows none fs else row :: discardedRows sent fs
    | .hangup _ | .unhang _ | .release _ | .withdraw _ | .draw _ _ | .lotIn _ _ _ _ | .broken _ _ _
    | .sighting _ | .catchup _ | .caught _ => discardedRows sent fs

/-- The event frame the station is sending. -/
def State.sentEvent (s : State) : Option EventFrame :=
  match s.lkc.sending with
  | some (.event f) => some f
  | some (.status _) | some (.opening _ _ _ _) | none => none

/-- The LKC hands REFUSED for a discarded CLAIM, with the notice; the activity's claim in queue is cleared whatever its state (R62, R115, R132, R171). The newest CLAIM for a row is the activity's own, and it is among those discarded wherever one is. -/
def handDiscard (row : Row) (s : State) : State :=
  let s := setNotice .refused s
  match row with
  | .level1 | .level2 | .level3 | .level4 | .level5 | .level6 =>
    { s with tbs := Tbs.handed .refused { s.tbs with claimInQueue := false } }
  | .chute1 | .chute2 => clearEngineClaim (engineDiscarded s)
  | .access => { s with lpt := Lpt.accessHanded .refused { s.lpt with accessClaim := false } }

/-- Every CLAIM of the queue is discarded and REFUSED is handed for each (R62). A discarded head frame sets the loss count to 0 and clears STARVED, on entry to HALTED too (R64; log 47). -/
def discardClaims (s : State) : State :=
  let sent := s.sentEvent
  let left := { s with lkc := { s.lkc with queue := withoutClaims sent s.lkc.queue } }
  let headGone := s.lkc.queue.head?.any fun f => f.isClaim && decide (some f ≠ sent)
  refreshClaimFlags
    ((discardedRows sent s.lkc.queue).foldl (fun s row => handDiscard row s)
      (if headGone then headLeft left else left))

/-! ### HALTED (R90, R161) -/

/-- The sequencer of a station that enters HALTED (R123). -/
def Tbs.halted (t : Tbs) : Tbs :=
  { t with
    state := .idle, claimInQueue := false, closing := .none, ahead := 0, pendingEnd := none
    lastResult := if t.state = .idle then t.lastResult else .abandoned }

/-- The station enters HALTED: the LKC stops sending and discards its CLAIM frames, the sequencer and the access sub-state go to IDLE, the engine to FAULTED, and every output is commanded off; the record, the catch-up state and the round state stay (R65, R90, R113, R123, R143, R150, R171). -/
def enterHalted (s : State) : State :=
  let stopped := setLink .halted { s with lkc := { s.lkc with sending := none } }
  let idle :=
    { stopped with
      rsc := { stopped.rsc with joiningCount := 0 }
      tbs := stopped.tbs.halted
      lpt := { stopped.lpt with access := .idle, accessClaim := false } }
  allOutputsOff (engineHalted (discardClaims idle))

/-! ### Raising (R156, R159) -/

/-- A block raises a condition. A rise of the grade to G3 halts the station; a rise to G2 discards the queued CLAIM frames; a rise to G2 through a condition other than WATCH reaches the engine (R62, R143, R159, R161). -/
def raiseCondition (c : Condition) (s : State) : State :=
  let t := setCondition c s
  if 3 ≤ t.grade ∧ s.grade < 3 then enterHalted t
  else
    let u := if 2 ≤ t.grade ∧ s.grade < 2 then discardClaims t else t
    if 2 ≤ t.gradeLessWatch ∧ s.gradeLessWatch < 2 then engineRise u else u

/-! ### The end of a step -/

/-- What a command answers. -/
abbrev Outcome := Host.Outcome State Fault Refusal

/-- Once everything a step brings is in place, the activities take the terms it leaves: causes of suspension begin or end (R141), a gate whose terms fail closes (R134), a limit ends its stroke (R133), a FAULTED engine leaves (R143), and the outputs are commanded on the terms both leave (R127). -/
def finish (s : State) : State :=
  commandOutputs (engineUnfault (gateLimits (gateLaw (engineCauses s))))

end Sys2Proof.Machine
end

