-- ==== Sys2Proof/Machine/Link.lean ====
section
/-! DEFINITION. The Link Controller: what a station may send and how its STATUS and OPENING frames are assembled (R57, R61, R70, R74, R105), lost arbitration and failed sends (R58, R59, R64), discarded frames (R54, R55, R77, R79), and the arrival of a valid frame (R56). -/

namespace Sys2Proof.Machine

/-! ### Assembling frames -/

/-- A row is listed in the holding set while the activity that owns it regards itself as holding it (R45, R137). -/
def State.listsRow (s : State) (row : Row) : Bool :=
  match row with
  | .level1 | .level2 | .level3 | .level4 | .level5 | .level6 =>
    decide (s.ownRow = some row) &&
      (decide (s.tbs.state = .granted) ||
        (decide (s.tbs.state = .ending) && (decide (s.tbs.closing = .lotIn) || decide (s.tbs.closing = .broken))))
  | .chute1 | .chute2 =>
    decide (s.ownRow = some row) &&
      (decide (s.dre.state = .running) || decide (s.dre.state = .dwelling) ||
        decide (s.dre.state = .suspended) || s.dre.releasePending ||
        (decide (s.dre.state = .hung) && s.dre.ownHangup))
  | .access => decide (s.lpt.access = .held)

/-- The holding set, bit r − 1 for row r; empty from JOINING and with no record (R45, R83). -/
def State.holdingSet (s : State) : BitVec 9 :=
  if s.rsc.link = .joining ∨ s.record = none then 0
  else allRows.foldl (fun set row => if s.listsRow row then set ||| BitVec.twoPow 9 (rowCode row - 1) else set) 0

/-- The station is the provider of a freeze that has passed a round start since it began, and its next piece (R105). -/
def State.nextPiece (s : State) : Option Piece :=
  match s.record, s.agu.tracker.run, s.agu.snapshot with
  | some r, some run, some snap =>
    if s.rsc.link = .inStep ∧ run.provider = s.station ∧ run.remaining < s.settings.freezeLimit.toNat then
      let index := (s.settings.freezeLimit.toNat - run.remaining - 1) % snap.totalPieces
      some
        { image := BitVec.ofNat 8 s.agu.tracker.imageId, index := BitVec.ofNat 8 index
          receivers := run.receivers, remaining := BitVec.ofNat 8 run.remaining
          content := pieceContent r snap index }
    else none
  | _, _, _ => none

/-- The STATUS frame as assembled when its send starts (R57, R70). -/
def State.statusFields (s : State) : StatusFields :=
  { link := BitVec.ofNat 3 (linkCode s.rsc.link), grade := BitVec.ofNat 2 s.grade, hold := s.holdFlag
    frozen := s.frozen, role := BitVec.ofNat 2 s.roleCode, place := BitVec.ofNat 3 s.place
    digest := if s.rsc.link = .joining ∨ s.record = none then 0 else s.agu.digest
    config := s.ownDigest, present := s.presentSet, holding := s.holdingSet, piece := s.nextPiece }

/-- The number of the round that follows the present one (R74). -/
def State.nextRound (s : State) : Nat := if s.rsc.roundNumber = 23 then 0 else s.rsc.roundNumber + 1

/-- The OPENING frame of the station's bid (R74). -/
def State.openingBid (s : State) : Sending :=
  .opening s.nextRound (if s.nextRound = 0 then (s.rsc.sequence + 1) % 256 else s.rsc.sequence)
    (s.rsc.holdSeen || s.holdFlag) s.ownDigest

/-- The conditions of R61 for one frame: link state, paused flag and the station's own freeze tracker. -/
def State.maySend (s : State) (f : EventFrame) : Bool :=
  match s.rsc.link with
  | .inStep =>
    match f with
    | .hangup _ | .caught _ => true
    | .catchup _ => !s.rsc.paused
    | .claim _ _ => !s.rsc.paused && !s.frozen
    | .unhang _ | .release _ | .withdraw _ | .draw _ _ | .lotIn _ _ _ _ | .broken _ _ _ | .sighting _ => !s.frozen
  | .catchup =>
    match f with
    | .hangup _ | .caught _ => true
    | .catchup _ => !s.rsc.paused
    | .claim _ _ | .unhang _ | .release _ | .withdraw _ | .draw _ _ | .lotIn _ _ _ _ | .broken _ _ _
    | .sighting _ => false
  | .offline | .listen | .joining | .halted => false

/-- The frame the LKC contends with in a window: the oldest it may send (R61). -/
def State.chosen (s : State) : Option EventFrame := s.lkc.queue.find? s.maySend

/-- The station starts to send. -/
def send (x : Sending) (s : State) : State := { s with lkc := { s.lkc with sending := some x } }

/-- The line is busy at a mark: another frame is on it, the receiver has not returned to waiting, or the station's own frame is (R57). -/
def State.lineBusy (s : State) (busy : Bool) : Bool := busy || s.lkc.discarding || s.lkc.sending.isSome

/-! ### Chances lost -/

/-- A window in which the head frame was chosen and not sent (R64). -/
def countLoss (f : EventFrame) (s : State) : State :=
  if s.lkc.queue.head? = some f then
    let losses := min (s.lkc.losses + 1) 16
    let s := { s with lkc := { s.lkc with losses := losses } }
    if losses = 16 then raiseCondition .starved s else s
  else s

/-- The station's sending is over without its frame being applied; a CLAIM that the grade would have discarded goes now (R62, log 16). -/
def sendingOver (s : State) : State :=
  let s := { s with lkc := { s.lkc with sending := none } }
  if 2 ≤ s.grade then discardClaims s else s

/-- What happens to the frame the station is sending when it has lost arbitration: the station stops driving and receives the frame in progress (R58). -/
def loseArbitration (s : State) : State :=
  match s.lkc.sending with
  | none => s
  | some (.event f) => countLoss f (sendingOver s)
  | some (.status _) | some (.opening _ _ _ _) => sendingOver s

/-- The round is abandoned (R77); round time restarts when `now` says, or when the receiver returns to waiting. -/
def abandonRound (now : Bool) (s : State) : State :=
  { s with
    rsc := { s.rsc with abandoned := true, span := .unopened, roundTime := if now then 0 else s.rsc.roundTime }
    lkc := { s.lkc with restartAtReturn := !now } }

/-- Round time `t` is at or past the OPEN entry's mark in an IN-ROUND span (R77). -/
def State.pastOpen (s : State) (t : Nat) : Bool :=
  decide (s.rsc.span = .inRound) && (s.settings.markOf .opening).any fun m => m ≤ t

/-- The frame is an OPENING. -/
def Sending.isOpening : Sending → Bool
  | .opening _ _ _ _ => true
  | .event _ | .status _ => false

/-- An own-frame failure (R59): the count rises, at 4 TRANSMITTER halts the station, and a failed OPENING may abandon the round. -/
def failSend (s : State) : State :=
  match s.lkc.sending with
  | none => s
  | some x =>
    let failures := min (s.lkc.ownFailures + 1) 4
    let s := sendingOver { s with lkc := { s.lkc with ownFailures := failures } }
    let s := if x.isOpening && s.pastOpen s.rsc.roundTime then abandonRound true s else s
    if failures = 4 then raiseCondition .transmitter s else s

/-! ### Discarded frames -/

/-- A received frame is discarded (R54): counted, with NOISE at 16 (R55); from the OPEN mark on it abandons the round (R77); in an UNOPENED span it restarts round time (R79). `start` is the round time of its start bit. -/
def discardFrame (start : Nat) (s : State) : State :=
  let bad := min (s.lkc.badFrames + 1) 255
  let s := { s with lkc := { s.lkc with badFrames := bad, discarding := true } }
  let s := if 16 ≤ bad then raiseCondition .noise s else s
  match s.rsc.span with
  | .unopened => { s with rsc := { s.rsc with roundTime := 0 } }
  | .inRound => if s.pastOpen start then abandonRound false s else s

/-- The receiver returns to waiting for a start bit, and round time restarts after an abandoned round (R54, R77). -/
def receiverReturns (s : State) : State :=
  if s.lkc.discarding then
    { s with
      lkc := { s.lkc with discarding := false, restartAtReturn := false }
      rsc := { s.rsc with roundTime := if s.lkc.restartAtReturn then 0 else s.rsc.roundTime } }
  else s

/-! ### Arrivals (R56) -/

/-- An event frame as it stands on the line. -/
def EventFrame.command (k : BitVec 4) : EventFrame → Instr
  | .hangup j => .hangupFrame k (BitVec.ofNat 8 j)
  | .unhang j => .unhangFrame k (BitVec.ofNat 8 j)
  | .release row => .releaseFrame k (BitVec.ofNat 8 (rowCode row))
  | .withdraw row => .withdrawFrame k (BitVec.ofNat 8 (rowCode row))
  | .draw j n => .drawFrame k (BitVec.ofNat 8 j) (BitVec.ofNat 16 n)
  | .lotIn level tonnes held grade =>
    .lotInFrame k (BitVec.ofNat 8 level) (BitVec.ofNat 12 tonnes) (BitVec.ofNat 12 held) (BitVec.ofNat 8 grade)
  | .broken level passed cleared => .brokenFrame k (BitVec.ofNat 8 level) cleared (BitVec.ofNat 12 passed)
  | .sighting n => .sightingFrame k (BitVec.ofNat 16 n)
  | .claim row p => .claimFrame k (BitVec.ofNat 8 (rowCode row)) (BitVec.ofNat 8 (purposeCode p))
  | .catchup p => .catchupFrame k (BitVec.ofNat 8 p)
  | .caught o => .caughtFrame k (BitVec.ofNat 8 (caughtCode o))

/-- The frame the station is sending, as it would be read back at a round time. -/
def State.sentCommand (s : State) (time : Nat) : Option Instr :=
  let k : BitVec 4 := BitVec.ofNat 4 s.station
  s.lkc.sending.map fun x =>
    match x with
    | .event f => f.command k
    | .status fields => .statusFrame k fields time
    | .opening round seq paused config =>
      .openingFrame k (BitVec.ofNat 8 round) (BitVec.ofNat 8 seq) paused config

/-- The frame the station is sending, as its bits name it. -/
def State.sentFrame (s : State) : Option RawFrame := (s.sentCommand 0).bind frameOf

/-- The bits of the station's frame on LTX, none while it sends no frame (R50). -/
def State.sentBits (s : State) : List Bool := (s.sentFrame.map RawFrame.line).getD []

/-- What the LKC presents to the transceiver in a bit time: the level on LTX, true for recessive, and LEN. -/
structure Driven where
  ltx : Bool
  len : Bool
  deriving DecidableEq, Repr

/-- LTX and LEN in the n-th bit time from a start bit on: the bits of the frame being sent, LEN asserted for each dominant one; while nothing is sent LTX is recessive and LEN deasserted (R50, R65). -/
def State.driven (s : State) (n : Nat) : Driven :=
  let bit := s.sentBits.getD n true
  { ltx := bit, len := !bit }

/-! ### Reading back (R58, R59) -/

/-- What a sender finds in the bits it reads back. -/
inductive ReadBack where
  /-- Every bit read so far is the bit sent. -/
  | agrees
  /-- Arbitration is lost at this bit time (R58). -/
  | lost (bit : Nat)
  /-- An own-frame failure at this bit time (R59). -/
  | failed (bit : Nat)
  deriving DecidableEq, Repr

/-- The comparison of the bits sent with the bits read, from bit time `n` on; the arbitration part is the first `edge` bit times. -/
def readBackFrom (edge : Nat) : Nat → List Bool → List Bool → ReadBack
  | _, [], _ | _, _ :: _, [] => .agrees
  | n, sent :: sents, read :: reads =>
    if sent = read then readBackFrom edge (n + 1) sents reads
    else if sent = true ∧ n < edge then .lost n
    else .failed n

/-- The bit times of the start bit and the eight identifier bits, inserted bits among them (R58); one inserted after the last identifier bit comes after it. -/
def RawFrame.arbitrationPart (f : RawFrame) : Nat := (stuff true 0 (false :: f.body.take 7)).length + 1

/-- What the station finds in the bits it reads back of its frame: within the arbitration part a recessive bit read dominant loses arbitration, and any other mismatch is an own-frame failure (R58, R59). -/
def State.readBack (s : State) (read : List Bool) : ReadBack :=
  match s.sentFrame with
  | none => .agrees
  | some f => readBackFrom f.arbitrationPart 0 f.line read

/-- What a frame on the line is to the station. -/
inductive Arrival where
  /-- In OFFLINE the LKC does not receive (R50). -/
  | unseen
  /-- A sender outside 1–12, or the station's own number from another station (R54). -/
  | discarded
  /-- The station's own frame, read back intact (R59). -/
  | own
  /-- A frame of another station. -/
  | received
  deriving DecidableEq, Repr

/-- The arrival of a frame command. -/
def State.arrival (s : State) (i : Instr) (sender time : Nat) : Arrival :=
  if s.rsc.link = .offline then .unseen
  else if sender = 0 ∨ 12 < sender then .discarded
  else if sender = s.station then (if s.sentCommand time = some i then .own else .discarded)
  else .received

/-- The kind of closing frame of the sequencer that an event frame is (R115). -/
def State.closingKind (s : State) (f : EventFrame) : Closing :=
  match f with
  | .lotIn _ _ _ _ => .lotIn
  | .broken _ _ _ => .broken
  | .release row => if isLevel row ∧ s.ownRow = some row then .release else .none
  | .withdraw row => if isLevel row ∧ s.ownRow = some row then .withdraw else .none
  | .hangup _ | .unhang _ | .draw _ _ | .sighting _ | .claim _ _ | .catchup _ | .caught _ => .none

/-- A sequencer in ENDING returns to IDLE when its closing frame is applied (R120). Frames of the closing kind that stood in the queue before it are applied before it and are counted off (log 11). -/
def closeSession (f : EventFrame) (s : State) : State :=
  let kind := s.closingKind f
  if s.tbs.state = .ending ∧ kind ≠ .none ∧ kind = s.tbs.closing then
    if s.tbs.ahead = 0 then
      { s with tbs := { s.tbs with state := .idle, closing := .none, pendingEnd := none, lastResult := .ended } }
    else { s with tbs := { s.tbs with ahead := s.tbs.ahead - 1 } }
  else s

/-- The frames of a closing kind in the queue. -/
def State.closingQueued (s : State) (kind : Closing) : Nat :=
  (s.lkc.queue.filter fun g => decide (s.closingKind g = kind)).length

/-- The frame is a RELEASE of a CHUTE row. -/
def EventFrame.isChuteRelease : EventFrame → Bool
  | .release .chute1 | .release .chute2 => true
  | _ => false

/-- What the application of an own event frame settles at its activity, before the PRU acts on the frame: a DRAW leaves the queued tonnes, a RELEASE ends release pending, a HANGUP ends own hang-up pending, a closing frame ends its session (R120, R137, R138, R139). -/
def settleOwn (f : EventFrame) (s : State) : State :=
  let s := closeSession f (refreshClaimFlags s)
  { s with
    dre := { s.dre with
      queued := if f.drawTonnes.isSome then 0 else s.dre.queued
      releasePending := s.dre.releasePending && !f.isChuteRelease
      ownHangup := s.dre.ownHangup && !(match f with | .hangup _ => true | _ => false) } }

/-- The station's own frame read back intact: the own-failure count returns to 0 and an event frame leaves the queue (R56, R59, R60). -/
def takeOwn (s : State) : State :=
  let x := s.lkc.sending
  let s := { s with lkc := { s.lkc with sending := none, ownFailures := 0 } }
  match x with
  | some (.event f) => settleOwn f (dequeue f s)
  | some (.status _) | some (.opening _ _ _ _) | none => s

/-- In an UNOPENED span a valid frame that is no round start restarts round time (R79). -/
def restartUnopened (s : State) : State :=
  if s.rsc.span = .unopened then { s with rsc := { s.rsc with roundTime := 0 } } else s

/-- The application of a valid frame: `act` is what the blocks it is delivered to do, and the step ends with `finish` (R56). -/
def applyFrame (i : Instr) (sender : BitVec 4) (time : Nat) (act : State → State) (s : State) : State :=
  match s.arrival i sender.toNat time with
  | .unseen => s
  | .discarded => finish (discardFrame s.rsc.roundTime s)
  | .own => finish (act (takeOwn (receiverReturns s)))
  | .received => finish (act (receiverReturns s))

end Sys2Proof.Machine
end

