-- ==== Sys2Proof/Machine/Agreement.lean ====
section
/-! DEFINITION. The Agreement Unit: freeze tracker and freeze view (R102–R104, R107), the receiver (R107–R112), and the meanings of CATCHUP_FRAME, CAUGHT_FRAME, FREEZE_LIMIT and RETRY_DUE. -/

namespace Sys2Proof.Machine

/-! ### Freezes as data -/

/-- A freeze that has ended; the image id stays (R104). -/
def Freeze.ended (f : Freeze) : Freeze := { f with run := none }

/-- A CATCHUP applied (R103): it begins a freeze, or its sender joins the receivers. -/
def Freeze.catchup (f : Freeze) (sender provider limit sequence : Nat) : Freeze :=
  match f.run with
  | none =>
    { run := some { provider := provider, receivers := withStation 0 sender, remaining := limit }
      imageId := sequence }
  | some r => { f with run := some { r with receivers := withStation r.receivers sender } }

/-- A CAUGHT applied (R104): its sender leaves the receivers, and an empty set ends the freeze. -/
def Freeze.caught (f : Freeze) (sender : Nat) : Freeze :=
  match f.run with
  | none => f
  | some r =>
    if hasStation r.receivers sender then
      if withoutStation r.receivers sender = 0 then f.ended
      else { f with run := some { r with receivers := withoutStation r.receivers sender } }
    else f

/-- The round-start step (R104). -/
def Freeze.step (f : Freeze) : Freeze :=
  match f.run with
  | none => f
  | some r => if r.remaining ≤ 1 then f.ended else { f with run := some { r with remaining := r.remaining - 1 } }

/-! ### Tracker, view and receiver -/

/-- The tracker takes a value: FREEZE at a change of its frozen flag, and the snapshot goes with the freeze (R102, R103). -/
def setTracker (f : Freeze) (s : State) : State :=
  setNoticeIf (decide (s.agu.tracker.run.isSome ≠ f.run.isSome)) .freeze
    { s with agu := { s.agu with tracker := f, snapshot := if f.run.isSome then s.agu.snapshot else none } }

/-- The view takes a value: FREEZE at a change of its frozen flag (R114). -/
def setView (f : Freeze) (s : State) : State :=
  setNoticeIf (decide (s.agu.view.run.isSome ≠ f.run.isSome)) .freeze { s with agu := { s.agu with view := f } }

/-- A change of receiver state sets the CATCHUP notice (R107). -/
def setReceiver (r : ReceiverState) (s : State) : State :=
  setNoticeIf (decide (s.agu.receiver ≠ r)) .catchup { s with agu := { s.agu with receiver := r } }

/-- The piece store emptied. -/
def emptyStore (s : State) : State := { s with agu := { s.agu with store := [], storeImage := 0 } }

/-- A CATCHUP naming a provider, offered of the AGU's own accord and kept where refused (R60). -/
def offerCatchup (provider : Nat) (s : State) : State :=
  if s.takes (.catchup provider) then enqueue (.catchup provider) s
  else { s with agu := { s.agu with keptCatchup := some provider } }

/-- A CAUGHT, offered likewise. -/
def offerCaught (o : CaughtOutcome) (s : State) : State :=
  if s.takes (.caught o) then enqueue (.caught o) s
  else { s with agu := { s.agu with keptCaught := some o } }

/-- The receiver asks a provider for its record (R107). -/
def askProvider (provider : Nat) (s : State) : State := offerCatchup provider (setReceiver .asking s)

/-- The receiver is in the course of an attempt (R111). -/
def State.attempting (s : State) : Bool :=
  decide (s.agu.receiver = .collecting) || decide (s.agu.receiver = .installing) ||
  decide (s.agu.receiver = .abandoning)

/-- The attempt is abandoned (R111). -/
def abandonAttempt (s : State) : State :=
  if !s.attempting then s
  else
    let failures := min (s.agu.failures + 1) 15
    let s := emptyStore (setReceiver .backoff s)
    let s := { s with agu := { s.agu with failures := failures, backoffRounds := 0 } }
    if 3 ≤ failures then raiseCondition .catchupFailed s else s

/-- The view takes a value in CATCHUP; the end of its freeze abandons an attempt (R111). -/
def moveView (f : Freeze) (s : State) : State :=
  let t := setView f s
  if s.agu.view.run.isSome && f.run.isNone then abandonAttempt t else t

/-- A HANGUP delivered in CATCHUP ends the view's freeze and any attempt (R107, R111). -/
def viewHangup (s : State) : State := abandonAttempt (setView s.agu.view.ended s)

/-! ### CATCHUP_FRAME -/

/-- At the station named when a freeze begins, the snapshot is taken (R103). -/
def takeSnapshot (s : State) : State :=
  match s.record with
  | none => s
  | some r =>
    { s with agu := { s.agu with
        snapshot := some { digest := r.digest, totalPieces := totalPieces r.column.lots.length r.queue.length } } }

/-- A CATCHUP frame at the AGU (R103, R107). -/
def aguCatchup (sender provider : Nat) (s : State) : State :=
  if provider = 0 ∨ 12 < provider ∨ provider = sender then s
  else
    let moved (f : Freeze) : Freeze := f.catchup sender provider s.settings.freezeLimit.toNat s.rsc.sequence
    match s.rsc.link with
    | .inStep =>
      let t := setTracker (moved s.agu.tracker) s
      if s.agu.tracker.run.isNone && decide (provider = s.station) then takeSnapshot t else t
    | .catchup =>
      let t := setView (moved s.agu.view) s
      if sender = s.station ∧ s.agu.receiver = .asking then emptyStore (setReceiver .collecting t) else t
    | .offline | .listen | .joining | .halted => s

/-- CATCHUP_FRAME. -/
def execCatchupFrame (sender : BitVec 4) (provider : Byte) (s : State) : Outcome :=
  .next (applyFrame (.catchupFrame sender provider) sender 0
    (fun s => aguCatchup sender.toNat provider.toNat (restartUnopened s)) s)

/-! ### CAUGHT_FRAME -/

/-- The install takes effect (R110): the station is IN-STEP with the view, the CAUGHT applied to it, as its tracker, and the activities read the record. -/
def installTakesEffect (s : State) : State :=
  let f := s.agu.view.caught s.station
  let s := setLink .inStep s
  let s := setTracker f (setView s.agu.view.ended s)
  let s := clearCondition .catchupFailed (clearCondition .disagree s)
  let s := setReceiver .idle { s with agu := { s.agu with failures := 0 } }
  readInstalled s

/-- A CAUGHT frame at the AGU (R104, R107, R110, R111). -/
def aguCaught (sender : Nat) (o : CaughtOutcome) (s : State) : State :=
  match s.rsc.link with
  | .inStep => setTracker (s.agu.tracker.caught sender) s
  | .catchup =>
    if sender = s.station ∧ o = .installed ∧ s.agu.receiver = .installing then installTakesEffect s
    else
      let t := moveView (s.agu.view.caught sender) s
      if sender = s.station ∧ o = .abandoned ∧ t.agu.receiver = .abandoning then abandonAttempt t else t
  | .offline | .listen | .joining | .halted => s

/-- CAUGHT_FRAME; an outcome that is neither 1 nor 2 acts on nothing (R176). -/
def execCaughtFrame (sender : BitVec 4) (outcome : Byte) (s : State) : Outcome :=
  .next (applyFrame (.caughtFrame sender outcome) sender 0
    (fun s =>
      match caughtOfCode outcome.toNat with
      | none => restartUnopened s
      | some o => aguCaught sender.toNat o (restartUnopened s)) s)

/-! ### Pieces (R108, R109) -/

/-- The pieces with one more, in index order; one of the same index is replaced. -/
def storePiece (p : StoredPiece) : List StoredPiece → List StoredPiece
  | [] => [p]
  | q :: qs =>
    if p.index < q.index then p :: q :: qs
    else if p.index = q.index then p :: qs
    else q :: storePiece p qs

/-- A piece that may be stored: an index below 23, and for piece 0 a total of 4–23 (R108). -/
def pieceStorable (p : Piece) : Bool :=
  decide (p.index.toNat < 23) &&
  (decide (p.index ≠ 0) || decide (4 ≤ (p.content.extractLsb' 0 8).toNat ∧ (p.content.extractLsb' 0 8).toNat ≤ 23))

/-- The install (R109): the record replaced and CAUGHT(INSTALLED) offered, or the record kept and CAUGHT(ABANDONED) offered. The new record sets CHOKE where the choke set differs (R10) and no COLUMN (log 38). -/
def install (s : State) : State :=
  match buildImage s.settings s.agu.store with
  | some r => emptyStore (setReceiver .installing (offerCaught .installed (changeRecord r s)))
  | none => emptyStore (setReceiver .abandoning (offerCaught .abandoned s))

/-- The piece joins the store and its header the view (R108). -/
def keepPiece (sender : Nat) (p : Piece) (s : State) : State :=
  let store := if s.agu.store ≠ [] ∧ s.agu.storeImage = p.image.toNat then s.agu.store else []
  setView
    { run := some { provider := sender, receivers := p.receivers, remaining := p.remaining.toNat }
      imageId := p.image.toNat }
    { s with agu := { s.agu with
        store := storePiece { index := p.index.toNat, content := p.content } store
        storeImage := p.image.toNat } }

/-- A STATUS frame at the AGU: a COLLECTING receiver takes its piece and installs when the store is complete; a piece that is not stored leaves the store as it is, whatever its image id (R108; log 52). -/
def aguStatus (sender : Nat) (f : StatusFields) (s : State) : State :=
  match f.piece with
  | none => s
  | some p =>
    if s.rsc.link = .catchup ∧ s.agu.receiver = .collecting ∧ f.config = s.ownDigest ∧
        hasStation p.receivers s.station = true ∧ pieceStorable p = true then
      let s := keepPiece sender p s
      if storeComplete s.agu.store then install s else s
    else s

/-! ### Digest comparison (R100) -/

/-- A compared station and its digest. -/
structure Compared where
  station : Nat
  digest : Word16
  deriving DecidableEq, Repr

/-- How many compared stations carry a digest. -/
def groupSize (cs : List Compared) (d : Word16) : Nat := (cs.filter fun c => c.digest = d).length

/-- The digest of the majority group: more than half of the compared stations, or else that of the lowest-numbered one; the list rises by station number (R100). -/
def majorityDigest (cs : List Compared) : Option Word16 :=
  match cs.find? fun c => cs.length < 2 * groupSize cs c.digest with
  | some c => some c.digest
  | none => cs.head?.map Compared.digest

/-- The lowest-numbered member of the majority group. -/
def majorityLowest (cs : List Compared) : Option Nat :=
  (majorityDigest cs).bind fun d => (cs.find? fun c => c.digest = d).map Compared.station

/-- The heard report of a station in the round just ended, of a present peer IN-STEP under the station's own config digest: a qualifying peer (R87, R100, R112). -/
def State.qualifying (s : State) (k : Nat) : Option Report :=
  if k ≠ s.station ∧ s.isPresent k = true then
    match s.rsc.lastHeard.getD (k - 1) none with
    | none => none
    | some r => if r.link = 4 ∧ r.config = s.ownDigest then some r else none
  else none

/-- The qualifying peers with the digests they reported, by rising number. -/
def State.qualifyingPeers (s : State) : List Compared :=
  allStations.filterMap fun k => (s.qualifying k).map fun r => { station := k, digest := r.digest }

/-- The compared stations: the qualifying peers and the station itself with its digest of the round just ended (R100). -/
def State.compared (s : State) (own : Word16) : List Compared :=
  allStations.filterMap fun k =>
    if k = s.station then some { station := k, digest := own }
    else (s.qualifying k).map fun r => { station := k, digest := r.digest }

/-- DISAGREE (R101): the record is kept, the tracker becomes the view, and the lowest-numbered member of the majority is asked. -/
def disagree (provider : Nat) (s : State) : State :=
  let tracker := s.agu.tracker
  let s := setLink .catchup (raiseCondition .disagree s)
  askProvider provider (setTracker tracker.ended (setView tracker s))

/-- The comparison at a round start, with the digest of the round just ended (R100, R101). -/
def compareDigests (own : Word16) (s : State) : State :=
  let cs := s.compared own
  match majorityDigest cs, majorityLowest cs with
  | some d, some k =>
    let s := { s with agu := { s.agu with majority := d, compared := cs.length } }
    if d = own then s else disagree k s
  | _, _ => s

/-! ### Round starts -/

/-- The slots heard in the round just ended are those the joining decision and the comparison read, and the new round has heard none (R71, R87, R100; log 13). -/
def Rsc.endReports (r : Rsc) : Rsc :=
  { r with slotFrames := List.replicate 12 none, heard := List.replicate 12 none, lastHeard := r.heard }

/-- The freeze step of the tracker in IN-STEP and of the view in CATCHUP (R104, R107). -/
def freezeStep (s : State) : State :=
  match s.rsc.link with
  | .inStep => setTracker s.agu.tracker.step s
  | .catchup => moveView s.agu.view.step s
  | .offline | .listen | .joining | .halted => s

/-- A CAUGHT of the receiver is still queued, or kept over from a refused offer (R112). -/
def State.caughtPending (s : State) : Bool :=
  s.lkc.queue.any EventFrame.isCaught || s.agu.keptCaught.isSome

/-- The number of unfrozen round starts since BACKOFF and the number of the round that starts make a retry due (R112). -/
def State.retryDue (s : State) (round : Nat) : Bool :=
  if s.agu.failures < 3 then decide (2 ≤ s.agu.backoffRounds)
  else decide (3 ≤ s.agu.backoffRounds) && decide (round = 0)

/-- A receiver in BACKOFF with an unfrozen view counts the round start (R112). -/
def State.backsOff (s : State) : Bool :=
  decide (s.rsc.link = .catchup) && decide (s.agu.receiver = .backoff) && s.agu.view.run.isNone

/-- A CATCHUP station without a record goes back to JOINING (R112); the image id of its view stays (log 25). -/
def backToJoining (s : State) : State :=
  let s := setLink .joining { s with rsc := { s.rsc with joiningCount := 0 } }
  let s := setView s.agu.view.ended (emptyStore (setReceiver .idle s))
  clearCondition .catchupFailed { s with agu := { s.agu with failures := 0 } }

/-- A retry that is due: asked of the lowest-numbered member of the majority of the qualifying peers, or held over, or given up for JOINING (R112). -/
def retry (s : State) : State :=
  if s.caughtPending then s
  else
    match majorityLowest s.qualifyingPeers with
    | some k => askProvider k s
    | none => if s.record.isNone then backToJoining s else s

/-- One more round start counted in BACKOFF (R112). -/
def countBackoff (s : State) : State :=
  { s with agu := { s.agu with backoffRounds := s.agu.backoffRounds + 1 } }

/-- The start of the round of that number at a receiver in BACKOFF: counted with an unfrozen view, and the retry where it falls due (R112). -/
def backoffStep (round : Nat) (s : State) : State :=
  if s.backsOff then
    if (countBackoff s).retryDue round then retry (countBackoff s) else countBackoff s
  else s

/-- FREEZE_LIMIT: the part of a round start in which a freeze at its last round ends (R104; log 8). -/
def execFreezeLimit (s : State) : Outcome :=
  .next (finish
    (match s.rsc.link with
     | .inStep =>
       if (s.agu.tracker.run.any fun r => r.remaining ≤ 1) then setTracker s.agu.tracker.ended s else s
     | .catchup => if (s.agu.view.run.any fun r => r.remaining ≤ 1) then moveView s.agu.view.ended s else s
     | .offline | .listen | .joining | .halted => s))

/-- RETRY_DUE: the start of the next round, which a receiver in BACKOFF counts and at which a retry falls due, on the slots heard in the round it ends (R112; log 8). -/
def execRetryDue (s : State) : Outcome :=
  .next (finish
    (if s.backsOff && (countBackoff s).retryDue s.nextRound then
      backoffStep s.nextRound { s with rsc := s.rsc.endReports }
    else s))

/-- Frames the AGU keeps are offered again at each round start (R60). -/
def reofferAgu (s : State) : State :=
  let s :=
    match s.agu.keptCatchup with
    | none => s
    | some p => offerCatchup p { s with agu := { s.agu with keptCatchup := none } }
  match s.agu.keptCaught with
  | none => s
  | some o => offerCaught o { s with agu := { s.agu with keptCaught := none } }

end Sys2Proof.Machine
end

