-- ==== Sys2Proof/Machine/Frames.lean ====
section
/-! DEFINITION. The frames the Pass Record Unit applies: column frames (R11–R24), claim frames (R33–R36), STATUS (R44, R70, R71, R108), with the meanings of their commands. -/

namespace Sys2Proof.Machine

/-- Frames of the pass record act at an IN-STEP station that holds a record and whose record is not frozen (R2, R11, R33, R35, R36). -/
def State.appliesFrames (s : State) : Bool := decide (s.rsc.link = .inStep) && !s.frozen

/-- The end of an application that changed the column: the cushion test and the scan (R37, R136). -/
def afterColumn (s : State) : State := runScan (cushionTest s)

/-- An event frame that is valid on the line: in an UNOPENED span it restarts round time (R79). -/
def applyEvent (i : Instr) (sender : BitVec 4) (act : State → State) (s : State) : Outcome :=
  .next (applyFrame i sender 0 (fun s => act (restartUnopened s)) s)

/-! ### Column frames -/

/-- LOT-IN at the PRU (R11, R14, R15). -/
def pruLotIn (k level tonnes held grade : Nat) (s : State) : State :=
  match s.record with
  | none => s
  | some r =>
    match levelRow level with
    | none => s
    | some row =>
      if s.appliesFrames && decide (level ≤ s.settings.levelCount) && decide (1 ≤ tonnes) && decide (grade ≤ 6) then
        let holder := r.table.holds k row
        afterColumn (changeColumn
          { column := r.column.lotIn holder r.table.heldLevels level tonnes held grade
            table := if holder then r.table.put row none else r.table
            queue := r.queue } s)
      else s

/-- BROKEN at the PRU (R11, R16–R18). -/
def pruBroken (k level passed : Nat) (cleared : Bool) (s : State) : State :=
  match s.record with
  | none => s
  | some r =>
    match levelRow level with
    | none => s
    | some row =>
      if s.appliesFrames && decide (level ≤ s.settings.levelCount) then
        let holder := r.table.holds k row
        afterColumn (changeColumn
          { column := r.column.broken holder r.table.heldLevels level passed cleared
            table := if holder then r.table.put row none else r.table
            queue := r.queue } s)
      else s

/-- DRAW at the PRU (R19, R20). -/
def pruDraw (chute tonnes : Nat) (s : State) : State :=
  match s.record with
  | none => s
  | some r =>
    if s.appliesFrames && decide (1 ≤ chute ∧ chute ≤ 2) && decide (1 ≤ tonnes ∧ tonnes ≤ 4095) then
      let t := changeColumn { r with column := r.column.draw tonnes } s
      afterColumn (if r.column.underruns tonnes then raiseCondition .underrun t else t)
    else s

/-- SIGHTING at the PRU (R21, R22); one of the station itself restarts its sighting round count (R154). -/
def pruSighting (k measured : Nat) (s : State) : State :=
  match s.record with
  | none => s
  | some r =>
    if s.appliesFrames && r.column.hung.isNone then
      let s := clearCondition .underrun (changeColumn { r with column := r.column.sighted measured } s)
      let s := if s.settings.tolerance.toNat < r.column.correction measured then raiseCondition .sightJump s else s
      let s := if k = s.station then { s with fca := { s.fca with sightingCount := 0 } } else s
      afterColumn s
    else s

/-- HANGUP at the PRU of an IN-STEP station (R23, R48): the freeze ends, the column is HUNG, both CHUTE rows are free, the engine takes the hang-up, and the scan follows. -/
def pruHangup (chute : Nat) (s : State) : State :=
  match s.record with
  | none => s
  | some r =>
    if decide (s.rsc.link = .inStep) && decide (1 ≤ chute ∧ chute ≤ 2) then
      let own := [Row.chute1, Row.chute2].filter fun row => r.table.holds s.station row
      let s := setNoticeIf r.column.hung.isNone .hangup (setTracker s.agu.tracker.ended s)
      let s := changeColumn
        { r with
          column := r.column.hangUp chute s.stamp
          table := (r.table.put .chute1 none).put .chute2 none } s
      runScan (handLost own (engineHungUp s))
    else s

/-- UNHANG at the PRU (R24): ignored while the column is NORMAL. -/
def pruUnhang (chute : Nat) (s : State) : State :=
  match s.record with
  | none => s
  | some r =>
    if s.appliesFrames && decide (1 ≤ chute ∧ chute ≤ 2) && r.column.hung.isSome then
      let s := setNotice .hangup (changeColumn { r with column := r.column.unhang } s)
      runScan (engineReadsColumn (cushionTest s))
    else s

/-- LOT_IN_FRAME. -/
def execLotInFrame (k : BitVec 4) (level : Byte) (tonnes held : BitVec 12) (grade : Byte) (s : State) : Outcome :=
  applyEvent (.lotInFrame k level tonnes held grade) k
    (pruLotIn k.toNat level.toNat tonnes.toNat held.toNat grade.toNat) s

/-- BROKEN_FRAME. -/
def execBrokenFrame (k : BitVec 4) (level : Byte) (cleared : Bool) (passed : BitVec 12) (s : State) : Outcome :=
  applyEvent (.brokenFrame k level cleared passed) k (pruBroken k.toNat level.toNat passed.toNat cleared) s

/-- DRAW_FRAME. -/
def execDrawFrame (k : BitVec 4) (chute : Byte) (tonnes : Word16) (s : State) : Outcome :=
  applyEvent (.drawFrame k chute tonnes) k (pruDraw chute.toNat tonnes.toNat) s

/-- SIGHTING_FRAME. -/
def execSightingFrame (k : BitVec 4) (measured : Word16) (s : State) : Outcome :=
  applyEvent (.sightingFrame k measured) k (pruSighting k.toNat measured.toNat) s

/-- HANGUP_FRAME: the AGU of a CATCHUP station takes every HANGUP delivered (R107). -/
def execHangupFrame (k : BitVec 4) (chute : Byte) (s : State) : Outcome :=
  applyEvent (.hangupFrame k chute) k
    (fun s => if s.rsc.link = .catchup then viewHangup s else pruHangup chute.toNat s) s

/-- UNHANG_FRAME. -/
def execUnhangFrame (k : BitVec 4) (chute : Byte) (s : State) : Outcome :=
  applyEvent (.unhangFrame k chute) k (pruUnhang chute.toNat) s

/-! ### Claim frames -/

/-- RELEASE at the PRU (R35). -/
def pruRelease (k code : Nat) (s : State) : State :=
  match s.record, rowOfCode code with
  | some r, some row =>
    if s.appliesFrames && rowExists s.settings row && r.table.holds k row then
      runScan (changeRecord (r.release row) s)
    else s
  | _, _ => s

/-- WITHDRAW at the PRU (R36). -/
def pruWithdraw (k code : Nat) (s : State) : State :=
  match s.record, rowOfCode code with
  | some r, some row =>
    if s.appliesFrames && rowExists s.settings row && r.withdrawActs k row then
      runScan (changeRecord (r.withdraw k row) s)
    else s
  | _, _ => s

/-- The outcome of a CLAIM handed to the activity of its own station (R34); WAITING sets no notice and changes no state. -/
def handClaim (k : Nat) (row : Row) (o : ClaimOutcome) (s : State) : State :=
  if k ≠ s.station then s
  else
    match o with
    | .granted => hand .granted row s
    | .waiting => s
    | .refused => hand .refused row s

/-- CLAIM at the PRU of an IN-STEP station (R33, R34); no scan follows. -/
def pruClaim (k code purpose : Nat) (s : State) : State :=
  match s.record, rowOfCode code with
  | some r, some row =>
    if s.rsc.link ≠ .inStep then s
    else if s.frozen then handClaim k row .refused s
    else
      match purposeOfCode purpose with
      | none => handClaim k row .refused s
      | some p =>
        handClaim k row (r.claimOutcome s.settings s.rsc.paused k row p)
          (changeRecord (r.claim s.settings s.rsc.paused k row p) s)
  | _, _ => s

/-- RELEASE_FRAME. -/
def execReleaseFrame (k : BitVec 4) (row : Byte) (s : State) : Outcome :=
  applyEvent (.releaseFrame k row) k (pruRelease k.toNat row.toNat) s

/-- WITHDRAW_FRAME. -/
def execWithdrawFrame (k : BitVec 4) (row : Byte) (s : State) : Outcome :=
  applyEvent (.withdrawFrame k row) k (pruWithdraw k.toNat row.toNat) s

/-- CLAIM_FRAME. -/
def execClaimFrame (k : BitVec 4) (row purpose : Byte) (s : State) : Outcome :=
  applyEvent (.claimFrame k row purpose) k (pruClaim k.toNat row.toNat purpose.toNat) s

/-! ### STATUS -/

/-- A STATUS frame at the PRU: the sender's row is renewed, or released by reconciliation (R44). -/
def pruStatus (k : Nat) (f : StatusFields) (s : State) : State :=
  match s.record with
  | none => s
  | some r =>
    if s.appliesFrames && decide (f.link = 4) && decide (f.config = s.ownDigest) then
      match r.table.rowOf k with
      | none => s
      | some row =>
        if f.holding.getLsbD (rowCode row - 1) then changeRecord (r.renew s.settings row) s
        else
          runScan (handLost (if k = s.station then [row] else []) (changeRecord (r.release row) s))
    else s

/-- The report of a STATUS frame, for the checks and comparisons (R87, R100). -/
def reportOf (f : StatusFields) : Report :=
  { link := f.link.toNat, config := f.config, digest := f.digest }

/-- A STATUS frame at the RSC: its hold flag is seen in either span, and in an IN-ROUND span a frame within its sender's own slot waits for the slot's check (R71); the last one within a slot stands for it (log 51). Round time stands at the frame's at least. -/
def rscStatus (k : Nat) (f : StatusFields) (time : Nat) (s : State) : State :=
  let s := { s with rsc := { s.rsc with holdSeen := s.rsc.holdSeen || f.hold } }
  match s.rsc.span with
  | .unopened => s
  | .inRound =>
    let t := max s.rsc.roundTime (min time Config.lastRoundTime)
    let s := { s with rsc := { s.rsc with roundTime := t } }
    match s.settings.slotOf k with
    | none => s
    | some (_, e) =>
      if e.mark ≤ t ∧ t < e.mark + Config.frameAllowance then
        { s with rsc := { s.rsc with slotFrames := s.rsc.slotFrames.set (k - 1) (some (reportOf f)) } }
      else s

/-- STATUS_FRAME: delivered to the RSC, the PRU and the AGU (R56). -/
def execStatusFrame (k : BitVec 4) (f : StatusFields) (time : Nat) (s : State) : Outcome :=
  .next (applyFrame (.statusFrame k f time) k time
    (fun s => aguStatus k.toNat f (pruStatus k.toNat f (rscStatus k.toNat f time (restartUnopened s)))) s)

end Sys2Proof.Machine
end

