-- ==== Sys2Proof/Machine/Rounds.lean ====
section
/-! DEFINITION. The Round Scheduler: the round start with all the work of the blocks (R41, R75, R87, R100, R135, R139, R154, R169), the moments of the plan (R69–R73, R78, R79), membership (R92, R93), and the meanings of the commands of both. -/

namespace Sys2Proof.Machine

/-! ### Claim work (R41–R43) -/

/-- The rows of the station whose lease reaches 0 at the countdown (R42). -/
def Record.expiring (r : Record) (k : Nat) : List Row :=
  allRows.filter fun row => (r.table.get row).any fun g => decide (g.holder = k) && decide (g.lease ≤ 1)

/-- The lease countdown, with LOST for the station's own row (R42). -/
def countLeases (s : State) : State :=
  match s.record with
  | none => s
  | some r =>
    handLost (r.expiring s.station) (changeRecord { r with table := r.table.countLeases } s)

/-- The ageing, with REFUSED for the station's own entry at the wait limit (R43). -/
def ageEntries (s : State) : State :=
  match s.record with
  | none => s
  | some r =>
    handRefused ((ownEntries s.station r.queue).filter fun e => e.timedOut s.settings)
      (changeRecord { r with queue := ageQueue s.settings r.queue } s)

/-- The claim work of an IN-STEP station at a round start that is neither paused nor frozen (R41). -/
def claimWork (s : State) : State :=
  if s.rsc.link = .inStep ∧ s.rsc.paused = false ∧ s.frozen = false then runScan (ageEntries (countLeases s))
  else s

/-! ### The digest of the round and the joining decision -/

/-- The record digest of the round (R99): of the record held in CATCHUP or IN-STEP, 0 without one and in JOINING; HALTED keeps the last. -/
def roundDigest (s : State) : State :=
  match s.rsc.link with
  | .catchup | .inStep => { s with agu := { s.agu with digest := (s.record.map Record.digest).getD 0 } }
  | .joining => { s with agu := { s.agu with digest := 0 } }
  | .offline | .listen | .halted => s

/-- The station founds the record (R88). -/
def foundRecord (s : State) : State :=
  let s := setNotice .column (changeRecord (Record.found s.settings) s)
  roundDigest (setLink .inStep (setTracker s.agu.tracker.ended s))

/-- The station's own number is lower than that of every other present station (R87). -/
def State.lowestPresent (s : State) : Bool :=
  allStations.all fun k => k = s.station || !s.isPresent k || decide (s.station < k)

/-- The joining decision (R87). -/
def decideJoining (s : State) : State :=
  match s.qualifyingPeers with
  | c :: _ => askProvider c.station (setLink .catchup s)
  | [] => if s.lowestPresent then foundRecord s else s

/-! ### The Draw Engine's work of a round start (R135, R138, R139) -/

/-- The dwell count (R135). A DWELL that moves up here is counted from the next round start on (log 43). -/
def dwellCount (s : State) : State :=
  match s.dre.state, s.dre.current with
  | .dwelling, some (.dwell amount left) =>
    if left ≤ 1 then
      cushionTest (endCurrent .complete { s with dre := { s.dre with current := some (.dwell amount 0) } })
    else { s with dre := { s.dre with current := some (.dwell amount (left - 1)) } }
  | _, _ => s

/-- The DRAW offer of an IN-STEP or CATCHUP station (R138). -/
def drawRound (s : State) : State :=
  if s.rsc.link = .inStep ∨ s.rsc.link = .catchup then offerDraw s else s

/-- The flow watch (R139). -/
def flowRound (s : State) : State :=
  if s.dre.state = .running ∧ s.dre.gate = .isOpen then
    let count := min (s.dre.flowWatch + 1) 255
    let s := { s with dre := { s.dre with flowWatch := count } }
    if s.settings.flowTimeout.toNat ≤ count then declareHangup s else s
  else s

/-- The engine's kept frames are offered again (R60), the RELEASE before the HANGUP (log 12). -/
def reofferEngine (s : State) : State :=
  let s := if s.dre.keptRelease then offerRelease { s with dre := { s.dre with keptRelease := false } } else s
  if s.dre.keptHangup then
    let s := { s with dre := { s.dre with keptHangup := false } }
    if s.takes (.hangup s.place) then enqueue (.hangup s.place) s
    else { s with dre := { s.dre with keptHangup := true } }
  else s

/-- The engine's work of a round start, after the PRU's claim work (R135). -/
def engineRound (s : State) : State :=
  if s.role = .chute ∧ s.rsc.link ≠ .halted then reofferEngine (flowRound (drawRound (dwellCount (engineCauses s))))
  else s

/-! ### The other blocks -/

/-- A RELEASE of the sequencer's own accord, kept where refused (R125); one that is kept already stands for both (log 39). -/
def offerTbsRelease (s : State) : State :=
  match s.ownRow with
  | none => s
  | some row =>
    if s.takes (.release row) then enqueue (.release row) s
    else { s with tbs := { s.tbs with keptRelease := true } }

/-- The sequencer's kept RELEASE is offered again (R60). -/
def reofferTbs (s : State) : State :=
  if s.tbs.keptRelease then offerTbsRelease { s with tbs := { s.tbs with keptRelease := false } } else s

/-- The sighting round count, and the kept SIGHTING offered again when the station is IN-STEP (R154). -/
def sightingRound (s : State) : State :=
  let s := { s with fca := { s.fca with sightingCount := min (s.fca.sightingCount + 1) 255 } }
  match s.fca.keptSighting with
  | none => s
  | some n =>
    if s.rsc.link = .inStep ∧ s.takes (.sighting n) = true then
      enqueue (.sighting n) { s with fca := { s.fca with keptSighting := none } }
    else s

/-- HOST-SILENT at the sequencer (R125). -/
def tbsHostSilent (s : State) : State :=
  match s.tbs.state with
  | .asking =>
    withdrawRow { s with tbs := { s.tbs with state := .idle, lastResult := .abandoned } }
  | .granted =>
    offerTbsRelease { s with tbs := { s.tbs with state := .idle, lastResult := .abandoned } }
  | .idle | .ending => s

/-- HOST-SILENT at the access sub-state (R171). -/
def accessHostSilent (s : State) : State :=
  match s.lpt.access with
  | .asking => offerOrDrop (.withdraw .access) { s with lpt := { s.lpt with access := .idle } }
  | .idle | .held => s

/-- HOST-SILENT handed to the activities that the two flags name (R157); where both offer a frame, the sequencer offers first (log 46). -/
def abandonForHost (tbs access : Bool) (s : State) : State :=
  let s := if tbs then tbsHostSilent s else s
  if access then accessHostSilent s else s

/-- The discard of R62 and the abandonment both reach an asking activity whose CLAIM is queued, in an order the manual leaves open (R125, R171). -/
def State.silenceOrderOpen (s : State) : Bool :=
  decide (s.grade < 2) &&
  ((decide (s.tbs.state = .asking) && s.tbs.claimInQueue) ||
   (decide (s.lpt.access = .asking) && s.lpt.accessClaim))

/-- HOST-SILENT is raised (R157); where the order is open, it is for each of the two activities a free value of its own (log 4). -/
def raiseHostSilent (s : State) : State :=
  if s.active .hostSilent then s
  else if s.silenceOrderOpen then
    let tbs := Config.abandonFirst s.freeCount
    let access := Config.abandonFirst (s.freeCount + 1)
    abandonForHost (!tbs) (!access)
      (raiseCondition .hostSilent (abandonForHost tbs access { s with freeCount := s.freeCount + 2 }))
  else abandonForHost true true (raiseCondition .hostSilent s)

/-- The host service countdown at a round start (R169). -/
def hostCountdown (s : State) : State :=
  if s.settings.hostInterval = 0 ∨ s.lpt.countdown = 0 then s
  else
    let n := s.lpt.countdown - 1
    let s := { s with lpt := { s.lpt with countdown := n } }
    if n = 0 then raiseHostSilent s else s

/-! ### The round start (R75) -/

/-- The LKC closes a sequence whose counter has changed (R55). -/
def closeSequence (sequence : Nat) (s : State) : State :=
  if s.rsc.sequence = sequence then s
  else
    let t := { s with lkc := { s.lkc with badFrames := 0 } }
    if s.lkc.badFrames < 16 then clearCondition .noise t else t

/-- The RSC's items at a round start (R67, R69, R75). -/
def Rsc.newRound (r : Rsc) (round sequence : Nat) (paused : Bool) : Rsc :=
  { r.endReports with
    roundTime := 0, roundNumber := round, sequence := sequence, paused := paused, span := .inRound
    abandoned := false, holdSeen := false, silentSpans := 0, walkPos := 0, checkPos := 0, bidDone := false }

/-- A LISTEN station enters JOINING at count 0; a JOINING station counts the round start (R85, R86). -/
def joinRound (s : State) : State :=
  match s.rsc.link with
  | .listen => setLink .joining { s with rsc := { s.rsc with joiningCount := 0 } }
  | .joining => { s with rsc := { s.rsc with joiningCount := min (s.rsc.joiningCount + 1) 2 } }
  | .offline | .catchup | .inStep | .halted => s

/-- The RSC takes the round start: the counters and the paused flag are in place before the other blocks act (R75, R85). -/
def takeRound (round sequence : Nat) (paused : Bool) (s : State) : State :=
  let t := closeSequence sequence s
  let t := { t with rsc := t.rsc.newRound round sequence paused }
  joinRound (setNoticeIf (decide (s.rsc.paused ≠ paused)) .pause
    (clearCondition .linkSilent (clearCondition .watch t)))

/-- The comparison is due: IN-STEP now and at the round start before (R100). -/
def State.comparesNow (s : State) : Bool := decide (s.rsc.link = .inStep) && s.agu.inStepBefore

/-- The agreement part of a round start: freeze step, claim work, digest, comparison, retry, joining decision (R41, R87, R99–R104, R112). -/
def agreementRound (s : State) : State :=
  let own := s.agu.digest
  let compares := s.comparesNow
  let wasBackoff := decide (s.agu.receiver = .backoff)
  let s := roundDigest (claimWork (freezeStep s))
  let s := if compares then compareDigests own s else s
  let s := if wasBackoff then backoffStep s.rsc.roundNumber s else s
  let s := if s.rsc.link = .joining ∧ s.rsc.joiningCount = 2 then decideJoining s else s
  { s with agu := { s.agu with inStepBefore := decide (s.rsc.link = .inStep) } }

/-- All the work of a round start, in the order of log 12. -/
def roundStart (round sequence : Nat) (paused : Bool) (s : State) : State :=
  hostCountdown (reofferAgu (sightingRound (reofferTbs (engineRound
    (agreementRound (takeRound round sequence paused s))))))

/-- An OPENING frame at the RSC (R75, R91). -/
def rscOpening (round sequence : Nat) (paused : Bool) (config : Word16) (s : State) : State :=
  if config ≠ s.ownDigest then raiseCondition .configMismatch s
  else if 24 ≤ round then s
  else roundStart round sequence paused s

/-- OPENING_FRAME. -/
def execOpeningFrame (k : BitVec 4) (round sequence : Byte) (paused : Bool) (config : Word16) (s : State) : Outcome :=
  .next (applyFrame (.openingFrame k round sequence paused config) k 0
    (rscOpening round.toNat sequence.toNat paused config) s)

/-! ### Parts of a round start named by their own commands (log 8) -/

/-- JOINING_DECISION: the round start that brings the joining count to 2 decides, on the slots heard in the round it ends (R87). -/
def execJoiningDecision (s : State) : Outcome :=
  .next (finish
    (if s.rsc.link = .joining ∧ 1 ≤ s.rsc.joiningCount then
      let s := decideJoining { s with rsc := { s.rsc.endReports with joiningCount := 2 } }
      { s with agu := { s.agu with inStepBefore := decide (s.rsc.link = .inStep) } }
    else s))

/-- LEASE_EXPIRY: a row at its last counting round start is released, with a scan of its own after it (R37, R42; log 8). -/
def execLeaseExpiry (row : Row) (s : State) : Outcome :=
  .next (finish
    (match s.record with
     | none => s
     | some r =>
       match r.table.get row with
       | none => s
       | some g =>
         if s.rsc.link = .inStep ∧ s.rsc.paused = false ∧ s.frozen = false ∧ g.lease ≤ 1 then
           runScan (handLost (if g.holder = s.station then [row] else []) (changeRecord (r.release row) s))
         else s))

/-- WAIT_LIMIT_REMOVAL: an entry at the wait limit leaves the queue, with a scan of its own after it (R37, R43; log 8). -/
def execWaitLimitRemoval (station : BitVec 4) (s : State) : Outcome :=
  .next (finish
    (match s.record with
     | none => s
     | some r =>
       let gone (e : WaitEntry) : Bool := decide (e.station = station.toNat) && e.timedOut s.settings
       if s.rsc.link = .inStep ∧ s.rsc.paused = false ∧ s.frozen = false ∧ r.queue.any gone = true then
         runScan (handRefused (ownEntries s.station (r.queue.filter gone))
           (changeRecord { r with queue := r.queue.filter fun e => !gone e } s))
       else s))

/-- DWELL_COMPLETE: the last round of a dwell is counted (R135, R136). -/
def execDwellComplete (s : State) : Outcome :=
  .next (finish
    (match s.dre.current with
     | some (.dwell _ left) => if left ≤ 1 ∧ s.rsc.link ≠ .halted then dwellCount s else s
     | some (.draw _ _) | none => s))

/-- FLOW_TIMEOUT: the flow watch count reaches the flow timeout (R139). -/
def execFlowTimeout (s : State) : Outcome :=
  .next (finish
    (if s.settings.flowTimeout.toNat ≤ s.dre.flowWatch + 1 ∧ s.rsc.link ≠ .halted then flowRound s else s))

/-- HOST_SILENT: the countdown runs out (R169). -/
def execHostSilent (s : State) : Outcome :=
  .next (finish (if s.lpt.countdown = 1 ∧ s.rsc.link ≠ .offline then hostCountdown s else s))

/-! ### The moments of the plan -/

/-- Round time stands at a moment. -/
def atMark (m : Nat) (s : State) : State := { s with rsc := { s.rsc with roundTime := m } }

/-- The link states in which the plan is walked with STATUS checks (R69, R92). -/
def State.checksSlots (s : State) : Bool :=
  decide (s.rsc.span = .inRound) &&
  match s.rsc.link with
  | .joining | .catchup | .inStep | .halted => true
  | .offline | .listen => false

/-- The link states in which the station sends its STATUS frame (R70). -/
def State.sendsStatus (s : State) : Bool :=
  decide (s.rsc.span = .inRound) &&
  match s.rsc.link with
  | .joining | .catchup | .inStep => true
  | .offline | .listen | .halted => false

/-- A station's miss count takes a value. -/
def Rsc.withMiss (r : Rsc) (k n : Nat) : Rsc := { r with miss := r.miss.set (k - 1) n }

/-- The check of a peer's slot: heard or missed, the miss count, and what the present set's change brings (R71, R92, R93). -/
def checkSlot (k : Nat) (s : State) : State :=
  let report := s.rsc.slotFrames.getD (k - 1) none
  let miss := if report.isSome then 0 else min (s.missOf k + 1) 7
  let t := { s with rsc := { s.rsc.withMiss k miss with heard := s.rsc.heard.set (k - 1) report } }
  if s.isPresent k = t.isPresent k then t
  else
    let t := setNotice .peers t
    if s.isPresent k then raiseCondition .peerLoss t else t

/-- STATUS_CHECK: 40 marks after the owner's STATUS mark (R71). -/
def statusCheck (owner : Nat) (s : State) : State :=
  match s.settings.slotOf owner with
  | none => s
  | some (i, e) =>
    if s.checksSlots && decide (owner ≠ s.station) && decide (s.rsc.checkPos ≤ i) &&
        decide (s.rsc.roundTime ≤ e.mark + Config.frameAllowance) then
      let s := { s with rsc := { s.rsc with checkPos := i + 1 } }
      checkSlot owner (atMark (e.mark + Config.frameAllowance) s)
    else s

/-- STATUS_SLOT: the station's own STATUS mark (R57, R70). -/
def statusSlot (busy : Bool) (s : State) : State :=
  match s.settings.slotOf s.station with
  | none => s
  | some (i, e) =>
    if s.sendsStatus && decide (s.rsc.walkPos ≤ i) && decide (s.rsc.roundTime ≤ e.mark) then
      let s := atMark e.mark { s with rsc := { s.rsc with walkPos := i + 1 } }
      if s.lineBusy busy then s else send (.status s.statusFields) s
    else s

/-- The LKC contends in a window; a busy line counts against a head frame that was chosen (R57, R61, R64). -/
def contend (busy : Bool) (s : State) : State :=
  match s.chosen with
  | none => s
  | some f =>
    if s.lkc.sending.isSome then s
    else if s.lineBusy busy then countLoss f s
    else send (.event f) s

/-- WINDOW: the mark of a WINDOW entry active in the current round (R72). -/
def openWindow (i : Nat) (busy : Bool) (s : State) : State :=
  match s.settings.walk[i]? with
  | none => s
  | some e =>
    if decide (e.kind = some .window) && e.active s.rsc.roundNumber && decide (s.rsc.span = .inRound) &&
        decide (s.rsc.link ≠ .offline) && decide (s.rsc.walkPos ≤ i) && decide (s.rsc.roundTime ≤ e.mark) then
      contend busy (atMark e.mark { s with rsc := { s.rsc with walkPos := i + 1 } })
    else s

/-- The station may bid: an opener in LISTEN to IN-STEP whose round is not abandoned and whose bid of this round or span is not made (R73). -/
def State.mayBid (s : State) : Bool :=
  !s.rsc.abandoned && !s.rsc.bidDone &&
  match s.rsc.link with
  | .listen | .joining | .catchup | .inStep => true
  | .offline | .halted => false

/-- OPENING_BID: the opener's bid mark (R57, R73). -/
def openingBid (busy : Bool) (s : State) : State :=
  match s.bidMark with
  | none => s
  | some m =>
    if s.mayBid && decide (s.rsc.roundTime ≤ m) then
      let s := atMark m { s with rsc := { s.rsc with bidDone := true } }
      if s.lineBusy busy then s else send s.openingBid s
    else s

/-- WATCH_EXPIRY (R78, R86). -/
def watchExpiry (s : State) : State :=
  match s.settings.markOf .watch, s.rsc.link with
  | some m, .joining =>
    if s.rsc.roundTime ≤ m then
      raiseCondition .watch (setLink .listen { s with rsc := { s.rsc with
        roundTime := 0, span := .unopened, abandoned := false, bidDone := false
        joiningCount := 0, silentSpans := 0 } })
    else s
  | some m, .catchup | some m, .inStep | some m, .halted =>
    if s.rsc.roundTime ≤ m then
      raiseCondition .watch { s with rsc := { s.rsc with
        roundTime := 0, span := .unopened, abandoned := false, bidDone := false } }
    else s
  | _, _ => s

/-- LISTEN_SPAN_END: round time WATCH mark plus 40 in LISTEN (R79, R85). -/
def listenSpanEnd (s : State) : State :=
  match s.settings.markOf .watch with
  | none => s
  | some m =>
    if s.rsc.link = .listen ∧ s.rsc.roundTime ≤ m + Config.frameAllowance then
      let n := min (s.rsc.silentSpans + 1) 16
      let s := { s with rsc := { s.rsc with roundTime := 0, silentSpans := n, bidDone := false } }
      if n = 16 then raiseCondition .linkSilent s else s
    else s

/-- STATUS_SLOT. -/
def execStatusSlot (busy : Bool) (s : State) : Outcome := .next (finish (statusSlot busy s))

/-- STATUS_CHECK. -/
def execStatusCheck (owner : BitVec 4) (s : State) : Outcome := .next (finish (statusCheck owner.toNat s))

/-- WINDOW. -/
def execWindow (entry : Nat) (busy : Bool) (s : State) : Outcome := .next (finish (openWindow entry busy s))

/-- OPENING_BID. -/
def execOpeningBid (busy : Bool) (s : State) : Outcome := .next (finish (openingBid busy s))

/-- WATCH_EXPIRY. -/
def execWatchExpiry (s : State) : Outcome := .next (finish (watchExpiry s))

/-- LISTEN_SPAN_END. -/
def execListenSpanEnd (s : State) : Outcome := .next (finish (listenSpanEnd s))

/-! ### Events of the line -/

/-- FRAME_DISCARD: the bits of a received frame fail a test of R54; bits that are no frame, or a valid one, discard nothing. -/
def execFrameDiscard (bits : List Bool) (start : Nat) (s : State) : Outcome :=
  .next (finish
    (if s.rsc.link = .offline ∨ bits.head? ≠ some false then s
     else
       match judge s.station bits with
       | .valid _ => s
       | .discarded _ => discardFrame start s))

/-- OWN_FRAME_FAILURE: the bits read back show a mismatch that is not lost arbitration (R59); any other bits change nothing (log 9). -/
def execOwnFrameFailure (s : State) (read : List Bool := []) : Outcome :=
  .next (finish
    (match s.readBack read with
     | .failed _ => failSend s
     | .agrees | .lost _ => s))

/-- ARBITRATION_LOSS: the bits read back show a recessive bit of the arbitration part read dominant (R58, R64); any other bits change nothing (log 9). -/
def execArbitrationLoss (s : State) (read : List Bool := []) : Outcome :=
  .next (finish
    (match s.readBack read with
     | .lost _ => loseArbitration s
     | .agrees | .failed _ => s))

/-- RECEIVER_RETURNS_TO_WAITING (R54, R77). -/
def execReceiverReturnsToWaiting (s : State) : Outcome := .next (finish (receiverReturns s))

end Sys2Proof.Machine
end

