-- ==== Sys2Proof/Machine/Channels.lean ====
section
/-! DEFINITION. The Field Channel Array: conditioning and takes (R146–R149, R152), readback (R150), automatic sighting (R154), the field tick (R133, R150, R174), and the meanings of the channel events. -/

namespace Sys2Proof.Machine

/-- One channel takes a value. -/
def setChannel (i : Nat) (ch : Channel) (s : State) : State :=
  { s with fca := { s.fca with channels := s.fca.channels.set i ch } }

/-- A channel restarts its conditioning under its setting: readings empty, flags clear, a LINE-OUT commanded off (R155). -/
def Channel.restart (ch : Channel) : Channel :=
  { Channel.reset with
    mode := ch.mode, x := ch.x, y := ch.y, binding := ch.binding
    pin := if ch.modeIs .lineOut then !ch.highIsOn else ch.pin }

/-- The ready flag of a channel is set; on a LOCAL channel the change sets the CHANNEL notice (R153). -/
def setReady (i : Nat) (ch : Channel) (s : State) : State :=
  setNoticeIf (ch.isLocal && !ch.ready) .channel (setChannel i { ch with ready := true } s)

/-- The take of each mode (R146–R149, R153). -/
def Channel.taken (ch : Channel) : Channel :=
  match modeOfCode ch.mode.toNat with
  | .off | .lineOut => ch
  | .lineIn | .widthIn => { ch with ready := false }
  | .countIn => { ch with ready := false, whole := 0 }
  | .captureIn => { ch with ready := false, capture := none, ignored := 0 }

/-- The function a channel is bound to. -/
def Channel.func (ch : Channel) : Option Func := funcOfCode ch.binding.toNat

/-- The engine takes belt-scale and flow-sensor readings in every link state except OFFLINE and HALTED (R138, R147, R148). -/
def State.engineTakes (s : State) : Bool :=
  decide (s.rsc.link ≠ .offline) && decide (s.rsc.link ≠ .halted)

/-! ### Takes of the bound functions (R152) -/

/-- A belt-scale take of n tonnes (R138): counted as unannounced and towards the current DRAW order, tested, and a sign of flow. -/
def beltTake (n : Nat) (s : State) : State :=
  let current :=
    match s.dre.current with
    | some (.draw target drawn) => if s.drawing then some (.draw target (min (drawn + n) target)) else s.dre.current
    | some (.dwell _ _) | none => s.dre.current
  let watch := if s.dre.state = .running ∧ s.dre.gate = .isOpen then 0 else s.dre.flowWatch
  cushionTest (completeDraw
    { s with dre := { s.dre with
        unannounced := min (s.dre.unannounced + n) 65535, current := current, flowWatch := watch } })

/-- The BELT-SCALE function takes the whole tonnes of a channel that has any (R147, R152). -/
def takeBelt (i : Nat) (s : State) : State :=
  let ch := s.channel i
  if ch.modeIs .countIn ∧ ch.func = some .beltScale ∧ 1 ≤ ch.whole ∧ s.engineTakes = true then
    beltTake ch.whole (setChannel i ch.taken s)
  else s

/-- The FLOW-SENSOR function takes a capture; it is a sign of flow while the engine is RUNNING with the gate OPEN (R139, R148). -/
def takeFlow (i : Nat) (s : State) : State :=
  let ch := s.channel i
  if ch.modeIs .captureIn ∧ ch.func = some .flowSensor ∧ ch.ready = true ∧ s.engineTakes = true then
    let s := setChannel i ch.taken s
    if s.dre.state = .running ∧ s.dre.gate = .isOpen then { s with dre := { s.dre with flowWatch := 0 } } else s
  else s

/-- A SIGHTING of the station is queued, or kept over from a refused offer (R154). -/
def State.sightingPending (s : State) : Bool :=
  s.lkc.queue.any EventFrame.isSighting || s.fca.keptSighting.isSome

/-- The conditions under which an average is offered as a SIGHTING (R154). -/
def State.sightsNow (s : State) : Bool :=
  decide (s.rsc.link = .inStep) && s.columnNormal &&
  decide (s.settings.sightingInterval.toNat ≤ s.fca.sightingCount) && !s.sightingPending

/-- The station reports its level gauge: role MONITOR with sighting source AUTO (R154). -/
def State.sightsAuto (s : State) : Bool := decide (s.role = .monitor) && decide (s.settings.sightingSource = 1)

/-- An average of the level gauge goes to automatic sighting: offered, or replacing the kept one, or left as the reading (R154). -/
def autoSight (average : Nat) (s : State) : State :=
  if !s.sightsAuto then s
  else if s.fca.keptSighting.isSome then { s with fca := { s.fca with keptSighting := some average } }
  else if s.sightsNow then
    if s.takes (.sighting average) then enqueue (.sighting average) s
    else { s with fca := { s.fca with keptSighting := some average } }
  else s

/-! ### Inputs -/

/-- A LINE-IN pin has shown a level at `run` consecutive field ticks up to this one (R146): the first tick after the mode is set (by CONFIG-DONE too, log 37) takes the level without debounce; afterwards it changes when the run of the other level reaches X. A bound channel's ready is cleared at once (R152), and so is that of a binding that names no function of the mode (log 41). -/
def sampleLine (i : Nat) (high : Bool) (run : Nat) (s : State) : State :=
  let ch := { s.channel i with pin := high, run := 0 }
  match ch.level, ch.fresh with
  | none, _ | some _, true => setChannel i { ch with level := some high, fresh := false } s
  | some l, false =>
    if l = high then setChannel i ch s
    else if run < ch.x.toNat then setChannel i { ch with run := run } s
    else if ch.isLocal then setReady i { ch with level := some high } s
    else setChannel i { ch with level := some high } s

/-- DEBOUNCED_LEVEL_CHANGE: the command brings the field ticks of its run with it (R146; log 21). -/
def debounce (i : Nat) (high : Bool) (ticks : Nat) (s : State) : State :=
  if (s.channel i).modeIs .lineIn ∧ 1 ≤ ticks then sampleLine i high ticks s else s

/-- The channel as an event finds it; one that has not come to the first field tick after its mode was set does not condition its pin (R145). -/
def Channel.conditions (ch : Channel) (ticked : Bool) : Bool := ticked || !ch.fresh

/-- A field tick has come since the mode was set, as the event of a conditioning channel shows. -/
def Channel.ticked (ch : Channel) : Channel := { ch with fresh := false }

/-- An edge of the configured kind: 0 rising, 1 falling, 2 both (R147, R148). -/
def Channel.counts (ch : Channel) (rising : Bool) : Bool :=
  if ch.y = 0 then rising else if ch.y = 1 then !rising else if ch.y = 2 then true
  else Config.edgeCounts ch.y rising

/-- The pulse of a counted edge: into the remainder, and at X into a whole tonne, saturating (R147). -/
def Channel.pulse (ch : Channel) : Channel :=
  if ch.x = 0 then
    let r := Config.countAtZero ch.whole ch.remainder
    { ch with whole := r.1.toNat, remainder := r.2.toNat }
  else if ch.remainder + 1 < ch.x.toNat then { ch with remainder := ch.remainder + 1 }
  else { ch with remainder := 0, whole := min (ch.whole + 1) 65535 }

/-- COUNT_IN_EDGE (R147): an edge before the first field tick after the mode was set is not counted (R145). -/
def countEdge (i : Nat) (rising ticked : Bool) (s : State) : State :=
  let ch := { s.channel i with pin := rising }
  if !ch.modeIs .countIn then s
  else if !ch.conditions ticked then setChannel i ch s
  else if ch.counts rising then
    let ch := ch.ticked.pulse
    if 1 ≤ ch.whole then takeBelt i (setReady i ch s) else setChannel i ch s
  else setChannel i ch.ticked s

/-- The capture of an edge now (R148). -/
def State.captureNow (s : State) : Capture :=
  if s.rsc.span = .inRound ∧ s.rsc.link ≠ .offline then .timed s.stamp s.rsc.roundTime else .noTime

/-- CAPTURE_IN_EDGE (R148): an edge before the first field tick after the mode was set is not captured (R145). -/
def captureEdge (i : Nat) (rising ticked : Bool) (s : State) : State :=
  let ch := { s.channel i with pin := rising }
  if !ch.modeIs .captureIn then s
  else if !ch.conditions ticked then setChannel i ch s
  else if ch.counts rising then
    if ch.ready then setChannel i { ch.ticked with ignored := min (ch.ignored + 1) 255 } s
    else takeFlow i (setReady i { ch.ticked with capture := some s.captureNow } s)
  else setChannel i ch.ticked s

/-- A completed pulse joins the sum; its tonnes are width × X ÷ 16, at most 65535 (R149). -/
def Channel.addPulse (ch : Channel) (width : Nat) : Channel :=
  { ch with sum := ch.sum + min (min width 65535 * ch.x.toNat / 16) 65535, pulses := ch.pulses + 1 }

/-- The average that a pulse completes, if any (R149). -/
def Channel.averageDue (ch : Channel) : Option Nat :=
  if ch.y = 0 then (Config.averageOfNone ch.sum).map BitVec.toNat
  else if ch.y.toNat ≤ ch.pulses then some (ch.sum / ch.y.toNat)
  else none

/-- WIDTH_IN_PULSE (R149): a pulse that began before the channel conditions its pin is not measured. A binding that names no function of the mode leaves the average ready (log 41). -/
def widthPulse (i width : Nat) (whole : Bool) (s : State) : State :=
  let ch := { s.channel i with pin := false }
  if !ch.modeIs .widthIn then s
  else if !whole then setChannel i ch s
  else
    let ch := ch.ticked.addPulse width
    match ch.averageDue with
    | none => setChannel i ch s
    | some a =>
      let ch := { ch with sum := 0, pulses := 0, average := some a }
      if ch.func = some .levelGauge then autoSight a (setChannel i ch.taken s)
      else setReady i ch s

/-! ### Readback (R150) -/

/-- The fault flag of a channel changes, with the CHANNEL notice (R150). -/
def setFault (i : Nat) (b : Bool) (ch : Channel) (s : State) : State :=
  setNoticeIf (decide (ch.fault ≠ b)) .channel (setChannel i { ch with fault := b } s)

/-- The level a LINE-OUT channel drives. -/
def Channel.driven (ch : Channel) : Bool := ch.commanded == ch.highIsOn

/-- The sensed level has differed at `ticks` consecutive ticks: past X the fault flag is set, and on a bound channel ACTUATOR is raised. -/
def disagreeing (i ticks : Nat) (s : State) : State :=
  let ch := s.channel i
  let ch := { ch.ticked with pin := !ch.driven, graceCount := ticks }
  if ch.x.toNat < ticks then
    let t := setFault i true ch s
    if !ch.fault && !ch.isLocal then raiseCondition .actuator t else t
  else setChannel i ch s

/-- The sensed level agrees: the count restarts and the fault flag is cleared. -/
def agreeing (i : Nat) (s : State) : State :=
  let ch := s.channel i
  setFault i false { ch.ticked with pin := ch.driven, graceCount := 0 } s

/-- READBACK_FAULT. -/
def readbackFault (i ticks : Nat) (s : State) : State :=
  if (s.channel i).modeIs .lineOut ∧ 1 ≤ ticks then disagreeing i ticks s else s

/-- READBACK_AGREE. -/
def readbackAgree (i : Nat) (s : State) : State :=
  if (s.channel i).modeIs .lineOut then agreeing i s else s

/-! ### The gate's stroke (R133) -/

/-- The stroke count reaches the stroke time before the target limit is asserted: STUCK, and ACTUATOR. -/
def stickGate (s : State) : State :=
  raiseCondition .actuator
    (setGate .stuck { s with dre := { s.dre with strokeCount := s.settings.strokeTime.toNat } })

/-- A stroke is in progress; in HALTED its count stands still (R134). -/
def State.stroking (s : State) : Bool :=
  (decide (s.dre.gate = .opening) || decide (s.dre.gate = .closing)) && decide (s.rsc.link ≠ .halted)

/-- GATE_STUCK: the command brings the field ticks up to the stroke time with it (log 49). -/
def gateStuck (s : State) : State := if s.stroking then stickGate s else s

/-! ### The field tick -/

/-- STRAP-LOAD: low in the first field tick of the load, high otherwise (R174). -/
def State.strapLoadHigh (s : State) : Bool := s.stl.loaded || decide (1 ≤ s.stl.ticks)

/-- STRAP-CLK makes one cycle in each of the 14 field ticks after the first, and is low after the load (R174). -/
def State.strapClocking (s : State) : Bool :=
  !s.stl.loaded && decide (1 ≤ s.stl.ticks ∧ s.stl.ticks ≤ 14)

/-- The strap load runs 15 field ticks after reset release (R174). -/
def strapTick (s : State) : State :=
  if s.stl.loaded then s
  else { s with stl := { s.stl with ticks := min (s.stl.ticks + 1) Config.strapLoadTicks } }

/-- The stroke count at a field tick (R133). -/
def strokeTick (s : State) : State :=
  if s.stroking then
    if s.settings.strokeTime.toNat ≤ s.dre.strokeCount + 1 then stickGate s
    else { s with dre := { s.dre with strokeCount := s.dre.strokeCount + 1 } }
  else s

/-- One channel at a field tick: a LINE-IN samples its pin, a LINE-OUT compares the sensed with the commanded level, and every other channel conditions its pin from here on (R145, R146, R150). -/
def channelTick (i : Nat) (s : State) : State :=
  let ch := s.channel i
  match modeOfCode ch.mode.toNat with
  | .lineIn => sampleLine i ch.pin (ch.run + 1) s
  | .lineOut => if ch.pin = ch.driven then agreeing i s else disagreeing i (ch.graceCount + 1) s
  | .off | .countIn | .captureIn | .widthIn => setChannel i ch.ticked s

/-- Every channel at a field tick. -/
def channelTicks (s : State) : State := [0, 1, 2, 3, 4, 5, 6, 7].foldl (fun s i => channelTick i s) s

/-- The field tick of 1 ms: the stroke is counted before the channels sample their pins, so that a limit whose debounce ends at the last tick of a stroke finds the gate STUCK (log 48). -/
def fieldTick (s : State) : State := channelTicks (strokeTick (strapTick s))

/-! ### Meanings of the channel events -/

/-- DEBOUNCED_LEVEL_CHANGE. -/
def execDebouncedLevelChange (channel : Fin 8) (high : Bool) (ticks : Nat) (s : State) : Outcome :=
  .next (finish (debounce channel.val high ticks s))

/-- COUNT_IN_EDGE. -/
def execCountInEdge (channel : Fin 8) (rising : Bool) (s : State) (ticked : Bool := true) : Outcome :=
  .next (finish (countEdge channel.val rising ticked s))

/-- CAPTURE_IN_EDGE. -/
def execCaptureInEdge (channel : Fin 8) (rising : Bool) (s : State) (ticked : Bool := true) : Outcome :=
  .next (finish (captureEdge channel.val rising ticked s))

/-- WIDTH_IN_PULSE. -/
def execWidthInPulse (channel : Fin 8) (width : Nat) (whole : Bool) (s : State) : Outcome :=
  .next (finish (widthPulse channel.val width whole s))

/-- READBACK_FAULT. -/
def execReadbackFault (channel : Fin 8) (ticks : Nat) (s : State) : Outcome :=
  .next (finish (readbackFault channel.val ticks s))

/-- READBACK_AGREE. -/
def execReadbackAgree (channel : Fin 8) (s : State) : Outcome :=
  .next (finish (readbackAgree channel.val s))

/-- GATE_STUCK. -/
def execGateStuck (s : State) : Outcome := .next (finish (gateStuck s))

end Sys2Proof.Machine
end

