-- ==== Sys2Proof/Machine/Port.lean ====
section
/-! DEFINITION. The Local Port: transactions and answers (R165–R167), notices (R168), the host service countdown (R169), access (R170), configuration and its checks (R80, R172, R173), the strap load (R174), and the resets (R84, R155, R167, R175). -/

namespace Sys2Proof.Machine

/-! ### Answers -/

/-- The request is answered, with read data (R165). -/
def answerWith (a : Answer) (data : List Byte) (s : State) : State :=
  { s with lpt := { s.lpt with answer := some a, readData := data } }

/-- The request is answered without read data. -/
def answer (a : Answer) (s : State) : State := answerWith a [] s

/-- A request: until the strap load has completed it is answered BUSY and has no effect (R165). -/
def request (act : State → State) (s : State) : Outcome :=
  .next (if s.stl.loaded then act s else answer .busy s)

/-- A test of a request: the case and its answer. -/
structure Case where
  fits : Bool
  gives : Answer
  deriving DecidableEq, Repr

/-- The answer of the first case that fits (R166). -/
def firstFit (cases : List Case) : Option Answer := (cases.find? Case.fits).map Case.gives

/-- A request with its tests in order: the first case that fits gives the answer and changes nothing else; otherwise the request is TAKEN with its effect (R166). -/
def tested (cases : List Case) (act : State → State) (s : State) : State :=
  match firstFit cases with
  | some a => answer a s
  | none => finish (answer .taken (act s))

/-- CONFIG-ONLY: the station is OFFLINE. -/
def State.offlineCase (s : State) : Case := { fits := decide (s.rsc.link = .offline), gives := .configOnly }

/-- NOT-IN-STEP outside IN-STEP. -/
def State.inStepCase (s : State) : Case := { fits := decide (s.rsc.link ≠ .inStep), gives := .notInStep }

/-- NOT-IN-STEP outside IN-STEP and CATCHUP. -/
def State.stepOrCatchupCase (s : State) : Case :=
  { fits := decide (s.rsc.link ≠ .inStep) && decide (s.rsc.link ≠ .catchup), gives := .notInStep }

/-- ROLE at a station of another role. -/
def State.roleCase (s : State) (r : Role) : Case := { fits := decide (s.role ≠ r), gives := .role }

/-- HELD while the HOLD-LINE is asserted (R95). -/
def State.heldCase (s : State) : Case := { fits := s.holdLine, gives := .held }

/-- DEGRADED at grade G2 and above (R159). -/
def State.degradedCase (s : State) : Case := { fits := decide (2 ≤ s.grade), gives := .degraded }

/-- FULL where the LKC refuses the offer (R60). -/
def State.fullCase (s : State) (f : EventFrame) : Case := { fits := !s.takes f, gives := .full }

/-! ### The code byte (R165, R169) -/

/-- The number of argument bytes that follow a request code, none where the code names no request (R177). -/
def argumentCount (code : Nat) : Option Nat :=
  match code with
  | 0x01 => some 6 | 0x02 => some 2 | 0x03 | 0x04 => some 0
  | 0x08 | 0x09 | 0x0A | 0x0B => some 0
  | 0x10 => some 0 | 0x11 => some 5 | 0x12 => some 0
  | 0x14 => some 0 | 0x15 => some 3 | 0x16 => some 0
  | 0x18 => some 3 | 0x19 | 0x1A => some 0
  | 0x1C => some 0 | 0x1D => some 2 | 0x1E | 0x1F => some 0
  | 0x20 => some 0 | 0x21 | 0x22 | 0x23 => some 1
  | 0x24 | 0x25 | 0x26 => some 0
  | 0x28 | 0x29 | 0x2A => some 1 | 0x2B => some 2
  | 0x2C | 0x2D => some 2
  | _ => none

/-- Bytes sent most significant first, as one value (R177). -/
def valueOfBytes (bytes : List Byte) : Nat := bytes.foldl (fun n b => n * 256 + b.toNat) 0

/-- The request that a code byte and its argument bytes spell, none where the code names no request or the bytes are not its arguments (R165, R177). -/
def requestOf (code : Byte) (args : List Byte) : Option Instr :=
  let byte (i : Nat) : Byte := args.getD i 0
  let word (i : Nat) : Word16 := BitVec.ofNat 16 (valueOfBytes ((args.drop i).take 2))
  if argumentCount code.toNat ≠ some args.length then none
  else
    match code.toNat with
    | 0x01 => some (.configWrite (byte 0) (byte 1) (BitVec.ofNat 32 (valueOfBytes (args.drop 2))))
    | 0x02 => some (.configRead (byte 0) (byte 1))
    | 0x03 => some .configDone
    | 0x04 => some .enterConfig
    | 0x08 => some .restart
    | 0x09 => some .faultClear
    | 0x0A => some .holdSet
    | 0x0B => some .holdClear
    | 0x10 => some .tipBegin
    | 0x11 => some (.tipEnd (word 0) (word 2) (byte 4))
    | 0x12 => some .tipAbandon
    | 0x14 => some .breakBegin
    | 0x15 => some (.breakEnd (word 0) (byte 2))
    | 0x16 => some .breakAbandon
    | 0x18 => some (.drawQueue (byte 0) (word 1))
    | 0x19 => some .drawStop
    | 0x1A => some .gateReset
    | 0x1C => some .unhang
    | 0x1D => some (.sight (word 0))
    | 0x1E => some .accessBegin
    | 0x1F => some .accessEnd
    | 0x20 => some .readStatus
    | 0x21 => some (.readLot (byte 0))
    | 0x22 => some (.readClaim (byte 0))
    | 0x23 => some (.readWait (byte 0))
    | 0x24 => some .readStrap
    | 0x25 => some .readConditions
    | 0x26 => some .readNotices
    | 0x28 => some (.readChannelKeep (byte 0))
    | 0x29 => some (.readChannelTake (byte 0))
    | 0x2A => some (.ackChannel (byte 0))
    | 0x2B => some (.setOutput (byte 0) (byte 1))
    | 0x2C => some (.clearNotices (word 0))
    | 0x2D => some (.setMask (word 0))
    | _ => none

/-- A code byte names a request (R177). -/
def codeNamesRequest (code : Nat) : Bool := (argumentCount code).isSome

/-- The countdown is set to the interval (R169). -/
def serviceHost (s : State) : State :=
  { s with lpt := { s.lpt with countdown := s.settings.hostInterval.toNat } }

/-- REQUEST_CODE_BYTE: services the countdown and ends HOST-SILENT before the request is tested; a code that names no request is answered at once (R157, R165, R169). -/
def execRequestCodeByte (code : Byte) (s : State) : Outcome :=
  let s := finish (clearCondition .hostSilent (serviceHost s))
  .next
    (if codeNamesRequest code.toNat then { s with lpt := { s.lpt with answer := none, readData := [] } }
     else if s.stl.loaded then answer .unknown s
     else answer .busy s)

/-! ### Configuration items (R172, R177) -/

/-- One channel written with a setting, which restarts its conditioning (R155); a fault flag that it clears is a change of the flag (R150, log 28). -/
def writeChannel (i : Nat) (f : Channel → Channel) (s : State) : State :=
  let ch := s.channel i
  setNoticeIf ch.fault .channel (setChannel i (f ch).restart s)

/-- An item written, or nothing where the code names no item, the plan length exceeds 40 or the index lies outside its list. A value wider than its item keeps its low bits (R177); the plan length is tested on the whole value (log 24). -/
def writeItem (item index : Nat) (v : BitVec 32) (s : State) : Option State :=
  let c := s.settings
  match item with
  | 0x01 => if v.toNat ≤ 40 then some { s with settings := { c with planLength := v.setWidth 8 } } else none
  | 0x02 => if index ≤ 39 then some { s with settings := { c with plan := c.plan.set index (some v) } } else none
  | 0x03 => some { s with settings := { c with levels := v.setWidth 8 } }
  | 0x04 =>
    if 1 ≤ index ∧ index ≤ 6 then
      some { s with settings := { c with chokes := c.chokes.set (index - 1) (some (v.setWidth 16)) } }
    else none
  | 0x05 => some { s with settings := { c with cushion := some (v.setWidth 16) } }
  | 0x06 => some { s with settings := { c with tipReservation := v.setWidth 16 } }
  | 0x07 => some { s with settings := { c with leaseLength := v.setWidth 8 } }
  | 0x08 => some { s with settings := { c with waitLimit := v.setWidth 8 } }
  | 0x09 => some { s with settings := { c with dropThreshold := v.setWidth 8 } }
  | 0x0A => some { s with settings := { c with freezeLimit := v.setWidth 8 } }
  | 0x0B => some { s with settings := { c with tolerance := v.setWidth 16 } }
  | 0x0C => some { s with settings := { c with founding := v.setWidth 16 } }
  | 0x20 =>
    if index ≤ 7 then some (writeChannel index (fun ch => { ch with mode := v.setWidth 8 }) s) else none
  | 0x21 => if index ≤ 7 then some (writeChannel index (fun ch => { ch with x := v.setWidth 16 }) s) else none
  | 0x22 => if index ≤ 7 then some (writeChannel index (fun ch => { ch with y := v.setWidth 16 }) s) else none
  | 0x23 =>
    if index ≤ 7 then some (writeChannel index (fun ch => { ch with binding := v.setWidth 8 }) s) else none
  | 0x30 => some { s with settings := { c with flowTimeout := v.setWidth 8 } }
  | 0x31 => some { s with settings := { c with strokeTime := v.setWidth 16 } }
  | 0x32 => some { s with settings := { c with hostInterval := v.setWidth 8 } }
  | 0x33 => some { s with settings := { c with sightingSource := v.setWidth 8 } }
  | 0x34 => some { s with settings := { c with sightingInterval := v.setWidth 8 } }
  | 0x35 => some { s with lpt := { s.lpt with mask := v.setWidth 16 } }
  | _ => none

/-- An item as read back. -/
inductive ItemRead where
  | noItem
  | unwritten
  | written (value : BitVec 32)
  deriving DecidableEq, Repr

/-- A value that may be unwritten. -/
def ItemRead.ofOption {w : Nat} (v : Option (BitVec w)) : ItemRead :=
  match v with
  | none => .unwritten
  | some v => .written (v.setWidth 32)

/-- An item of a channel. -/
def readChannelItem {w : Nat} (index : Nat) (f : Channel → BitVec w) (s : State) : ItemRead :=
  if index ≤ 7 then .written ((f (s.channel index)).setWidth 32) else .noItem

/-- An item read back as written (R172). -/
def readItem (item index : Nat) (s : State) : ItemRead :=
  let c := s.settings
  match item with
  | 0x01 => .written (c.planLength.setWidth 32)
  | 0x02 => if index ≤ 39 then .ofOption (c.plan.getD index none) else .noItem
  | 0x03 => .written (c.levels.setWidth 32)
  | 0x04 => if 1 ≤ index ∧ index ≤ 6 then .ofOption (c.chokes.getD (index - 1) none) else .noItem
  | 0x05 => .ofOption c.cushion
  | 0x06 => .written (c.tipReservation.setWidth 32)
  | 0x07 => .written (c.leaseLength.setWidth 32)
  | 0x08 => .written (c.waitLimit.setWidth 32)
  | 0x09 => .written (c.dropThreshold.setWidth 32)
  | 0x0A => .written (c.freezeLimit.setWidth 32)
  | 0x0B => .written (c.tolerance.setWidth 32)
  | 0x0C => .written (c.founding.setWidth 32)
  | 0x20 => readChannelItem index Channel.mode s
  | 0x21 => readChannelItem index Channel.x s
  | 0x22 => readChannelItem index Channel.y s
  | 0x23 => readChannelItem index Channel.binding s
  | 0x30 => .written (c.flowTimeout.setWidth 32)
  | 0x31 => .written (c.strokeTime.setWidth 32)
  | 0x32 => .written (c.hostInterval.setWidth 32)
  | 0x33 => .written (c.sightingSource.setWidth 32)
  | 0x34 => .written (c.sightingInterval.setWidth 32)
  | 0x35 => .written (s.lpt.mask.setWidth 32)
  | _ => .noItem

/-- CONFIG_WRITE. -/
def execConfigWrite (item index : Byte) (value : BitVec 32) (s : State) : Outcome :=
  request (fun s =>
    if s.rsc.link ≠ .offline then answer .runOnly s
    else
      match writeItem item.toNat index.toNat value s with
      | none => answer .badArg s
      | some t => finish (answer .taken t)) s

/-- CONFIG_READ: a written item with its flag, an unwritten one with the indication clear and a free value (log 3). -/
def execConfigRead (item index : Byte) (s : State) : Outcome :=
  request (fun s =>
    match readItem item.toNat index.toNat s with
    | .noItem => answer .badArg s
    | .written v => answerWith .taken (packBytes [(8, 1), (32, v.toNat)]) s
    | .unwritten =>
      answerWith .taken (packBytes [(8, 0), (32, (Config.unwrittenValue s.freeCount).toNat)])
        { s with freeCount := s.freeCount + 1 }) s

/-! ### The checks of the round plan (R80) -/

/-- Two WINDOW entries are active in the same round for some round number 0–23. -/
def activeTogether (a b : PlanEntry) : Bool := (List.range 24).any fun r => a.active r && b.active r

/-- Every entry has a mark that does not fall below the one before (check 6). -/
def marksRise : List PlanEntry → Bool
  | a :: b :: es => decide (a.mark ≤ b.mark) && marksRise (b :: es)
  | [_] | [] => true

/-- Marks at least 40 apart, or WINDOW entries sharing a mark (check 7, neighbours). -/
def marksApart : List PlanEntry → Bool
  | a :: b :: es =>
    (decide (a.mark + 40 ≤ b.mark) ||
      (decide (a.kind = some .window) && decide (b.kind = some .window) && decide (a.mark = b.mark))) &&
    marksApart (b :: es)
  | [_] | [] => true

/-- No two WINDOW entries sharing a mark are active in the same round (check 7, every pair). -/
def windowsDisjoint : List PlanEntry → Bool
  | a :: es =>
    (es.all fun b =>
      !(decide (a.kind = some .window) && decide (b.kind = some .window) && decide (a.mark = b.mark) &&
        activeTogether a b)) &&
    windowsDisjoint es
  | [] => true

/-- Entries of a kind. -/
def ofKind (k : PlanKind) (es : List PlanEntry) : List PlanEntry := es.filter fun e => e.kind = some k

/-- Entries after the first of a kind. -/
def afterKind (k : PlanKind) (es : List PlanEntry) : List PlanEntry :=
  (es.dropWhile fun e => decide (e.kind ≠ some k)).drop 1

/-- Checks 1 to 11, in order (R80). -/
def planChecks (c : Settings) (station : Nat) : List Bool :=
  let w := c.walk
  let open1 := (c.markOf .opening).getD 0
  let watch1 := (c.markOf .watch).getD 0
  let timed := w.filter fun e => e.kind ≠ some .finish
  [ c.entries.all fun e => e.any fun e => e.kind.isSome && decide (e.phase < e.period),
    decide ((ofKind .opening w).length = 1) && decide ((ofKind .watch w).length = 1) &&
      (ofKind .opening w ++ ofKind .watch w).all fun e => decide (e.period = 1),
    (ofKind .status w).all (fun e => decide (e.period = 1) && decide (1 ≤ e.owner ∧ e.owner ≤ 12)) &&
      noRepeats ((ofKind .status w).map PlanEntry.owner),
    (ofKind .status w).any fun e => e.owner = station,
    !(ofKind .window w).isEmpty,
    marksRise timed,
    marksApart timed && windowsDisjoint timed,
    (afterKind .opening w).all fun e => decide (e.kind ≠ some .status) && decide (e.kind ≠ some .window),
    !(ofKind .watch (afterKind .opening w)).isEmpty && decide (open1 + Config.watchGap ≤ watch1),
    decide (watch1 + Config.frameAllowance ≤ Config.lastRoundTime),
    (afterKind .watch w).all fun e => decide (e.kind = some .finish) ]

/-! ### The checks of the other items (R173) -/

/-- choke_1 to choke_L are written, at least 1, and rise strictly (check 13). -/
def chokesRise (c : Settings) : Bool :=
  (List.range c.levelCount).all fun i =>
    (c.chokes.getD i none).isSome && decide (1 ≤ c.choke (i + 1)) && (i = 0 || decide (c.choke i < c.choke (i + 1)))

/-- X and Y within the ranges of the channel's mode, OFF untested, an unknown mode code failing (R145, check 22). -/
def Channel.rangesHold (ch : Channel) : Bool :=
  if 5 < ch.mode.toNat then false
  else
    match modeOfCode ch.mode.toNat with
    | .off => true
    | .lineIn => decide (ch.x.toNat ≤ 255) && decide (ch.y.toNat ≤ 1)
    | .lineOut => decide (1 ≤ ch.x.toNat ∧ ch.x.toNat ≤ 255) && decide (ch.y.toNat ≤ 1)
    | .countIn => decide (1 ≤ ch.x.toNat) && decide (ch.y.toNat ≤ 2)
    | .captureIn => decide (ch.y.toNat ≤ 2)
    | .widthIn => decide (1 ≤ ch.x.toNat) && decide (1 ≤ ch.y.toNat ∧ ch.y.toNat ≤ 8)

/-- The mode of a function's channel (R151). -/
def funcMode : Func → Mode
  | .holdLine | .gateOpenLimit | .gateShutLimit => .lineIn
  | .gateOpenValve | .gateCloseValve | .permitLamp | .hammerEnable => .lineOut
  | .beltScale => .countIn
  | .flowSensor => .captureIn
  | .levelGauge => .widthIn

/-- The roles that may bind a function (R151). -/
def roleMayBind (r : Role) : Func → Bool
  | .holdLine => true
  | .gateOpenValve | .gateCloseValve | .gateOpenLimit | .gateShutLimit | .beltScale | .flowSensor =>
    decide (r = .chute)
  | .permitLamp => decide (r = .tip)
  | .hammerEnable => decide (r = .breaker)
  | .levelGauge => decide (r = .monitor)

/-- The functions a role requires (R151). -/
def requiredFuncs (r : Role) (auto : Bool) : List Func :=
  match r with
  | .tip => [.permitLamp]
  | .breaker => [.hammerEnable]
  | .chute => [.gateOpenValve, .gateCloseValve, .gateOpenLimit, .gateShutLimit, .beltScale, .flowSensor]
  | .monitor => if auto then [.levelGauge] else []

/-- A bound channel names a function whose mode it has (check 23). -/
def Channel.modeFits (ch : Channel) : Bool := ch.isLocal || ch.func.any fun f => ch.modeIs (funcMode f)

/-- The bound channels of a station. -/
def State.boundChannels (s : State) : List Channel := s.fca.channels.filter fun ch => !ch.isLocal

/-- Checks 12 to 27, in order (R173). -/
def itemChecks (s : State) : List Bool :=
  let c := s.settings
  let auto := decide (c.sightingSource = 1)
  [ decide (1 ≤ c.levelCount ∧ c.levelCount ≤ 6),
    chokesRise c,
    c.cushion.isSome && decide (c.cushionTonnes < c.choke 1),
    decide (1 ≤ c.tipReservation.toNat ∧ c.tipReservation.toNat ≤ 4095),
    decide (8 ≤ c.leaseLength.toNat),
    decide (1 ≤ c.waitLimit.toNat),
    decide (1 ≤ c.dropThreshold.toNat ∧ c.dropThreshold.toNat ≤ 7),
    decide (48 ≤ c.freezeLimit.toNat),
    !(decide (s.role = .tip) || decide (s.role = .breaker)) || decide (s.place ≤ c.levelCount),
    decide (1 ≤ c.flowTimeout.toNat) && decide (100 ≤ c.strokeTime.toNat ∧ c.strokeTime.toNat ≤ 30000) &&
      decide (1 ≤ c.sightingInterval.toNat),
    s.fca.channels.all Channel.rangesHold,
    s.fca.channels.all Channel.modeFits,
    noRepeats (s.boundChannels.map fun ch => ch.binding.toNat),
    s.boundChannels.all fun ch => ch.func.any (roleMayBind s.role),
    (requiredFuncs s.role auto).all fun f => (s.boundIndex f).isSome,
    decide (c.sightingSource = 0) || (auto && decide (s.role = .monitor)) ]

/-- Checks 0 to 27: the strap word, the plan, the other items (R173). -/
def configChecks (s : State) : List Bool := s.strapValid :: planChecks s.settings s.station ++ itemChecks s

/-- The number of the first check that fails (R173). -/
def failingCheck (s : State) : Option Nat :=
  let i := (configChecks s).findIdx fun passes => !passes
  if i < (configChecks s).length then some i else none

/-! ### CONFIG-DONE -/

/-- The gate of a CHUTE station takes its state from the shut limit (R130). -/
def gateFromLimit (s : State) : State :=
  if s.role ≠ .chute then s
  else if s.asserted .gateShutLimit then setGate .shut s
  else setGate .closing { s with dre := { s.dre with strokeCount := 0 } }

/-- The bound functions take the readings that OFFLINE left in their channels (R147, R148; log 27). -/
def takeAllReadings (s : State) : State :=
  [0, 1, 2, 3, 4, 5, 6, 7].foldl (fun s i => takeFlow i (takeBelt i s)) s

/-- CONFIG-DONE sets the mode of every channel: it conditions its pin again from the next field tick, which takes a LINE-IN level without debounce, and what it holds stands until then (R145, R146; log 37). -/
def Channel.modeSet (ch : Channel) : Channel := { ch with fresh := true }

/-- The station leaves OFFLINE for LISTEN (R67, R84, R173). -/
def leaveOffline (s : State) : State :=
  let s := serviceHost { s with
    lpt := { s.lpt with configDigest := some s.settings.digest }
    rsc := { s.rsc with
      roundTime := 0, span := .unopened, abandoned := false, holdSeen := false, silentSpans := 0
      joiningCount := 0, bidDone := false } }
  takeAllReadings (gateFromLimit (mapChannels Channel.modeSet (setLink .listen s)))

/-- CONFIG_DONE. -/
def execConfigDone (s : State) : Outcome :=
  request (fun s =>
    if s.rsc.link ≠ .offline then answer .runOnly s
    else
      match failingCheck s with
      | some n => answer (.checkFailed n) s
      | none => answer .taken (driveOutputs (finish (leaveOffline s)))) s

/-! ### Resets -/

/-- The run-time items of the RSC after RESTART and ENTER-CONFIG: the counters kept, everything else as after the reset line (R67, R84). -/
def Rsc.restart (r : Rsc) (l : LinkState) : Rsc :=
  { Rsc.reset with link := l, roundNumber := r.roundNumber, sequence := r.sequence }

/-- A gate that is not SHUT becomes CLOSING with stroke count 0 (R130). -/
def Dre.restart (d : Dre) : Dre :=
  { Dre.reset with gate := if d.gate = .shut then .shut else .closing }

/-- The state RESTART and ENTER-CONFIG give a station (R2, R65, R84, R113, R115, R130, R155, R156, R169, R175). -/
def State.restarted (s : State) (l : LinkState) : State :=
  { s with
    lkc := Lkc.reset, rsc := s.rsc.restart l, record := none, agu := Agu.reset, tbs := Tbs.reset
    dre := s.dre.restart
    fca :=
      { channels := s.fca.channels.map Channel.restart, sightingCount := 255, keptSighting := none }
    conditions := 0
    lpt :=
      { s.lpt with
        notices := BitVec.twoPow 16 (noticeBit .state), countdown := s.settings.hostInterval.toNat
        access := .idle, accessClaim := false } }

/-- A taken RESTART or ENTER-CONFIG: the answer already reflects the new state, and the outputs follow their functions at once (R155, R167). -/
def restart (l : LinkState) (s : State) : State := answer .taken (driveOutputs (finish (s.restarted l)))

/-- RESTART. -/
def execRestart (s : State) : Outcome :=
  request (fun s => if s.rsc.link = .offline then answer .configOnly s else restart .listen s) s

/-- ENTER_CONFIG. -/
def execEnterConfig (s : State) : Outcome := request (fun s => restart .offline s) s

/-- A channel after the reset line: OFF, with the level its pin happens to show (R155, log 2). -/
def Channel.powerOn (ch : Channel) : Channel := { Channel.reset with pin := ch.pin }

/-- The reset line: every block in its power-on state (R84); commands that wait, free values used and pin levels are outside the part. -/
def State.poweredOn (s : State) : State :=
  { State.reset with
    fca := { Fca.reset with channels := s.fca.channels.map Channel.powerOn }
    freeCount := s.freeCount, pending := s.pending }

/-- RESET_LINE. -/
def execResetLine (s : State) : Outcome := .next s.poweredOn

/-- STRAP_LOAD: the load ends 15 field ticks after the release, once for each release (R174). -/
def execStrapLoad (word : BitVec 14) (s : State) : Outcome :=
  .next
    (if s.stl.loaded then s
     else finish { s with stl := { word := word, loaded := true, ticks := Config.strapLoadTicks } })

/-! ### Station requests (R94, R163, R167, R168) -/

/-- The fault flag of a bound LINE-OUT channel is set (R162). -/
def State.boundFault (s : State) : Bool :=
  s.fca.channels.any fun ch => ch.modeIs .lineOut && !ch.isLocal && ch.fault

/-- FAULT-CLEAR's clearings (R163). -/
def faultClear (s : State) : State :=
  let t := clearCondition .sightJump (clearCondition .peerLoss s)
  if s.dre.gate = .stuck ∨ s.boundFault = true then t else clearCondition .actuator t

/-- FAULT_CLEAR. -/
def execFaultClear (s : State) : Outcome := request (tested [] faultClear) s

/-- HOLD_SET. -/
def execHoldSet (s : State) : Outcome :=
  request (fun s => answer .taken { s with lpt := { s.lpt with holdRequest := true } }) s

/-- HOLD_CLEAR. -/
def execHoldClear (s : State) : Outcome :=
  request (fun s => answer .taken { s with lpt := { s.lpt with holdRequest := false } }) s

/-- SIGHT (R167). -/
def execSight (measured : Word16) (s : State) : Outcome :=
  request (fun s =>
    tested
      [s.offlineCase, s.inStepCase, { fits := s.columnHung, gives := .busy }, s.fullCase (.sighting measured.toNat)]
      (enqueue (.sighting measured.toNat)) s) s

/-- CLEAR_NOTICES. -/
def execClearNotices (set : Word16) (s : State) : Outcome :=
  request (fun s => answer .taken { s with lpt := { s.lpt with notices := s.lpt.notices &&& ~~~set } }) s

/-- SET_MASK. -/
def execSetMask (set : Word16) (s : State) : Outcome :=
  request (fun s => answer .taken { s with lpt := { s.lpt with mask := set } }) s

/-! ### Access (R170) -/

/-- The CLAIM of the access sub-state. -/
def accessClaimFrame : EventFrame := .claim .access .access

/-- ACCESS_BEGIN. -/
def execAccessBegin (s : State) : Outcome :=
  request (fun s =>
    tested
      [s.offlineCase, s.inStepCase, s.heldCase, s.degradedCase,
       { fits := decide (s.lpt.access ≠ .idle), gives := .busy }, s.fullCase accessClaimFrame]
      (fun s => enqueue accessClaimFrame { s with lpt := { s.lpt with access := .asking, accessClaim := true } })
      s) s

/-- The frame with which access ends: WITHDRAW while asking, RELEASE while held. -/
def State.accessEndFrame (s : State) : EventFrame :=
  if s.lpt.access = .held then .release .access else .withdraw .access

/-- ACCESS_END. -/
def execAccessEnd (s : State) : Outcome :=
  request (fun s =>
    tested
      [s.offlineCase, s.stepOrCatchupCase, { fits := decide (s.lpt.access = .idle), gives := .busy },
       s.fullCase s.accessEndFrame]
      (fun s => enqueue s.accessEndFrame { s with lpt := { s.lpt with access := .idle } })
      s) s

end Sys2Proof.Machine
end

