-- ==== Sys2Proof/Machine/Sequencer.lean ====
section
/-! DEFINITION. The requests of the Tip and Break Sequencer: BEGIN (R116), END (R118) and ABANDON (R119), each for a TIP and for a BREAKER station. -/

namespace Sys2Proof.Machine

/-- The row of the station's place. CONFIG-DONE lets no TIP, BREAKER or CHUTE station leave OFFLINE without one (R173, R174), and requests that read it are refused there. -/
def State.placeRow (s : State) : Row := s.ownRow.getD .level1

/-! ### Beginning a session (R116) -/

/-- The CLAIM of a session. -/
def State.sessionClaim (s : State) (p : Purpose) : EventFrame := .claim s.placeRow p

/-- The tests of a BEGIN, in order. -/
def State.beginCases (s : State) (r : Role) (p : Purpose) : List Case :=
  [s.offlineCase, s.roleCase r, s.inStepCase, s.heldCase, s.degradedCase,
   { fits := decide (s.tbs.state ≠ .idle), gives := .busy }, s.fullCase (s.sessionClaim p)]

/-- A BEGIN taken: the CLAIM is queued and the sequencer enters ASKING with the claim in queue set. -/
def beginSession (p : Purpose) (s : State) : State :=
  enqueue (s.sessionClaim p) { s with tbs := { s.tbs with state := .asking, claimInQueue := true } }

/-- TIP_BEGIN. -/
def execTipBegin (s : State) : Outcome :=
  request (fun s => tested (s.beginCases .tip .tip) (beginSession .tip) s) s

/-- BREAK_BEGIN. -/
def execBreakBegin (s : State) : Outcome :=
  request (fun s => tested (s.beginCases .breaker .brk) (beginSession .brk) s) s

/-! ### Closing a session (R118) -/

/-- The tests of an END, in order; `bad` says an argument lies outside its range. -/
def State.endCases (s : State) (r : Role) (bad : Bool) (f : EventFrame) : List Case :=
  [s.offlineCase, s.roleCase r, s.stepOrCatchupCase, { fits := decide (s.tbs.state ≠ .granted), gives := .busy },
   { fits := bad, gives := .badArg }, s.fullCase f]

/-- An END taken: its frame is queued and the sequencer enters ENDING with the closing frame and the arguments. -/
def endSession (kind : Closing) (args : EndArgs) (f : EventFrame) (s : State) : State :=
  enqueue f { s with tbs := { s.tbs with
    state := .ending, closing := kind, ahead := s.closingQueued kind, pendingEnd := some args } }

/-- The ranges of TIP-END. -/
def tipArgsBad (tonnes held : Word16) (grade : Byte) : Bool :=
  !decide (1 ≤ tonnes.toNat ∧ tonnes.toNat ≤ 4095 ∧ held.toNat ≤ 4095 ∧ grade.toNat ≤ 6)

/-- The LOT-IN of a TIP-END. -/
def State.tipFrame (s : State) (tonnes held : Word16) (grade : Byte) : EventFrame :=
  .lotIn s.place tonnes.toNat held.toNat grade.toNat

/-- TIP_END. -/
def execTipEnd (tonnes held : Word16) (grade : Byte) (s : State) : Outcome :=
  request (fun s =>
    tested (s.endCases .tip (tipArgsBad tonnes held grade) (s.tipFrame tonnes held grade))
      (endSession .lotIn (.tip tonnes.toNat held.toNat grade.toNat) (s.tipFrame tonnes held grade)) s) s

/-- The cleared flag a byte gives: 0 and 1 by R177's other flag bytes, any other byte a free value (log 5). -/
def clearedOfByte (b : Byte) : Bool :=
  if b = 0 then false else if b = 1 then true else Config.clearedFlag b

/-- The BROKEN of a BREAK-END. -/
def State.breakFrame (s : State) (passed : Word16) (cleared : Byte) : EventFrame :=
  .broken s.place passed.toNat (clearedOfByte cleared)

/-- BREAK_END. -/
def execBreakEnd (passed : Word16) (cleared : Byte) (s : State) : Outcome :=
  request (fun s =>
    tested (s.endCases .breaker (decide (4095 < passed.toNat)) (s.breakFrame passed cleared))
      (endSession .broken (.brk passed.toNat (clearedOfByte cleared)) (s.breakFrame passed cleared)) s) s

/-! ### Giving a session up (R119) -/

/-- The frame of an ABANDON: WITHDRAW while asking, RELEASE while granted. -/
def State.abandonFrame (s : State) : EventFrame :=
  if s.tbs.state = .granted then .release s.placeRow else .withdraw s.placeRow

/-- The tests of an ABANDON, in order. -/
def State.abandonCases (s : State) (r : Role) : List Case :=
  [s.offlineCase, s.roleCase r, s.stepOrCatchupCase,
   { fits := decide (s.tbs.state = .idle) || decide (s.tbs.state = .ending), gives := .busy },
   s.fullCase s.abandonFrame]

/-- An ABANDON taken; the claim in queue is kept as it stands. -/
def abandonSession (s : State) : State :=
  let kind : Closing := if s.tbs.state = .granted then .release else .withdraw
  enqueue s.abandonFrame
    { s with tbs := { s.tbs with state := .ending, closing := kind, ahead := s.closingQueued kind } }

/-- TIP_ABANDON. -/
def execTipAbandon (s : State) : Outcome :=
  request (fun s => tested (s.abandonCases .tip) abandonSession s) s

/-- BREAK_ABANDON. -/
def execBreakAbandon (s : State) : Outcome :=
  request (fun s => tested (s.abandonCases .breaker) abandonSession s) s

end Sys2Proof.Machine
end

