-- ==== Sys2Proof/Machine/Draw.lean ====
section
/-! DEFINITION. The requests of the Draw Engine: DRAW-QUEUE (R131), DRAW-STOP (R142), GATE-RESET (R133) and UNHANG (R140). -/

namespace Sys2Proof.Machine

/-! ### DRAW-QUEUE (R131) -/

/-- The order a request asks for, where kind and amount are in range: DRAW 1–4095 t, DWELL 1–255 rounds. -/
def orderOf (kind amount : Nat) : Option Order :=
  if kind = 1 ∧ 1 ≤ amount ∧ amount ≤ 4095 then some (.draw amount 0)
  else if kind = 2 ∧ 1 ≤ amount ∧ amount ≤ 255 then some (.dwell amount amount)
  else none

/-- The CLAIM of the engine, for every order kind. -/
def State.drawClaim (s : State) : EventFrame := .claim s.placeRow .draw

/-- The tests of DRAW-QUEUE, in order. -/
def State.queueCases (s : State) (kind amount : Nat) : List Case :=
  [s.offlineCase, s.roleCase .chute, s.inStepCase, s.heldCase, s.degradedCase,
   { fits := (orderOf kind amount).isNone, gives := .badArg },
   { fits := decide (s.dre.state = .hung) || decide (s.dre.state = .faulted), gives := .busy },
   { fits := s.dre.current.isSome && s.dre.next.isSome, gives := .full },
   { fits := decide (s.dre.state = .idle) && !s.takes s.drawClaim, gives := .full }]

/-- A DRAW-QUEUE taken: an IDLE engine takes the order as current and asks for its row, any other takes it as next. -/
def queueOrder (kind amount : Nat) (s : State) : State :=
  match orderOf kind amount with
  | none => s
  | some o =>
    if s.dre.state = .idle then
      enqueue s.drawClaim
        { s with dre := { s.dre with current := some o, claimInQueue := true, state := .asking } }
    else { s with dre := { s.dre with next := some o } }

/-- DRAW_QUEUE. -/
def execDrawQueue (kind : Byte) (amount : Word16) (s : State) : Outcome :=
  request (fun s =>
    tested (s.queueCases kind.toNat amount.toNat) (queueOrder kind.toNat amount.toNat) s) s

/-! ### DRAW-STOP (R142) -/

/-- The orders end with STOPPED; ORDER-ROOM as well where there were two. -/
def stopOrders (s : State) : State :=
  endOrders .stopped (setNoticeIf s.dre.next.isSome .orderRoom s)

/-- A DRAW-STOP taken, by engine state. -/
def stopEngine (s : State) : State :=
  match s.dre.state with
  | .asking => setEngine .idle (withdrawRow (stopOrders s))
  | .running | .dwelling | .suspended => setEngine .idle (releaseRow (closeCommand (stopOrders s)))
  | .idle | .hung | .faulted => stopOrders s

/-- DRAW_STOP. -/
def execDrawStop (s : State) : Outcome :=
  request (fun s =>
    tested [s.offlineCase, s.roleCase .chute, { fits := s.dre.current.isNone, gives := .busy }]
      stopEngine s) s

/-! ### GATE-RESET (R133) -/

/-- GATE_RESET. -/
def execGateReset (s : State) : Outcome :=
  request (fun s =>
    tested
      [s.offlineCase, s.roleCase .chute, { fits := decide (s.rsc.link = .halted), gives := .notInStep },
       { fits := decide (s.dre.gate ≠ .stuck), gives := .busy }]
      (startStroke .closing) s) s

/-! ### UNHANG (R140) -/

/-- UNHANG. -/
def execUnhang (s : State) : Outcome :=
  request (fun s =>
    tested
      [s.offlineCase, s.roleCase .chute, s.inStepCase, { fits := !s.columnHung, gives := .busy },
       s.fullCase (.unhang s.place)]
      (enqueue (.unhang s.place)) s) s

end Sys2Proof.Machine
end

