-- ==== Sys2Proof/Machine/Reads.lean ====
section
/-! DEFINITION. The reads of the host (R26, R49, R66, R82, R98, R114, R129, R144, R164, R168, R174) with their layouts (R177), and the host's access to the channels (R153). -/

namespace Sys2Proof.Machine

/-! ### Codes of states, in the order of the rule that lists them (R177) -/

/-- Access sub-state (R170). -/
def accessCode : AccessState → Nat
  | .idle => 0 | .asking => 1 | .held => 2

/-- Receiver state (R107). -/
def receiverCode : ReceiverState → Nat
  | .idle => 0 | .asking => 1 | .collecting => 2 | .installing => 3 | .abandoning => 4 | .backoff => 5

/-- Sequencer state (R115). -/
def sequencerCode : TbsState → Nat
  | .idle => 0 | .asking => 1 | .granted => 2 | .ending => 3

/-- Closing frame (R115). -/
def closingCode : Closing → Nat
  | .none => 0 | .lotIn => 1 | .broken => 2 | .release => 3 | .withdraw => 4

/-- Last result (R115). -/
def resultCode : TbsResult → Nat
  | .none => 0 | .granted => 1 | .refused => 2 | .lost => 3 | .ended => 4 | .abandoned => 5

/-- Engine state (R130). -/
def engineCode : EngineState → Nat
  | .idle => 0 | .asking => 1 | .running => 2 | .dwelling => 3 | .suspended => 4 | .hung => 5
  | .faulted => 6

/-- Gate state (R130). -/
def gateCode : GateState → Nat
  | .shut => 0 | .opening => 1 | .isOpen => 2 | .closing => 3 | .stuck => 4

/-- Order outcome (R130). -/
def outcomeCode : OrderOutcome → Nat
  | .none => 0 | .complete => 1 | .cushion => 2 | .stopped => 3 | .hung => 4 | .lost => 5 | .fault => 6

/-- Span: 0 for IN-ROUND, 1 for UNOPENED. -/
def spanCode : Span → Nat
  | .inRound => 0 | .unopened => 1

/-- Order kind: 0 for no order, 1 for DRAW, 2 for DWELL. -/
def orderKindCode : Option Order → Nat
  | none => 0 | some (.draw _ _) => 1 | some (.dwell _ _) => 2

/-- Amount and progress of an order. -/
def orderAmounts : Option Order → Nat × Nat
  | none => (0, 0) | some (.draw target drawn) => (target, drawn) | some (.dwell amount left) => (amount, left)

/-- Answer codes (R166, R177). -/
def answerCode : Answer → Nat
  | .taken => 0 | .busy => 1 | .full => 2 | .role => 3 | .notInStep => 4 | .degraded => 5 | .held => 6
  | .badArg => 7 | .configOnly => 8 | .runOnly => 9 | .bound => 10 | .noRecord => 11 | .unknown => 12
  | .checkFailed n => 64 + n

/-- The defined bytes that SDO carries after a request: the answer code, then the read data (R165). -/
def State.portBytes (s : State) : List Byte :=
  match s.lpt.answer with
  | none => []
  | some a => BitVec.ofNat 8 (answerCode a) :: s.lpt.readData

/-- The n-th byte clocked out after a request, counted from 0: beyond the last defined byte it is 0; none where no answer stands (R165). -/
def State.portByte (s : State) (n : Nat) : Option Byte := s.lpt.answer.map fun _ => s.portBytes.getD n 0

/-! ### READ-STATUS, by groups of bytes -/

/-- The record presence indication: an IN-STEP station with its record (R2). -/
def State.recordReadable (s : State) : Option Record := if s.rsc.link = .inStep then s.record else none

/-- Bytes 0–8: link, grade, hold, round state. -/
def State.statusRound (s : State) : List (Nat × Nat) :=
  [(3, linkCode s.rsc.link), (2, s.grade), (1, s.holdFlag.toNat), (1, s.lpt.holdRequest.toNat), (1, s.holdLine.toNat),
   (1, s.recordReadable.isSome.toNat), (1, spanCode s.rsc.span), (1, s.rsc.paused.toNat), (1, s.rsc.abandoned.toNat),
   (2, s.rsc.joiningCount), (2, accessCode s.lpt.access),
   (8, s.rsc.roundNumber), (8, s.rsc.sequence), (16, s.stamp), (16, s.rsc.roundTime), (8, s.rsc.silentSpans)]

/-- The miss count the host reads: that of a peer, 0 for any other number, for which none is kept (R92, R98). -/
def State.missRead (s : State) (k : Nat) : Nat := if s.isPeer k then s.missOf k else 0

/-- Bytes 9–20: membership and the LKC. -/
def State.statusLink (s : State) : List (Nat × Nat) :=
  (16, s.presentSet.toNat) :: (allStations.map fun k => (3, s.missRead k)) ++
    [(4, 0), (4, s.lkc.queue.length), (1, (queuedDraw s.lkc.queue).isSome.toNat), (3, s.lkc.ownFailures),
     (16, (queuedDraw s.lkc.queue).getD 0), (8, s.lkc.badFrames), (8, s.lkc.losses)]

/-- The choke set as a number, bit k − 1 for level k. -/
def chokeNumber (set : List Bool) : Nat := natOfBits set.reverse

/-- The row a station holds or waits for, and whether it holds it (R49). -/
def Record.ownClaim (r : Record) (k : Nat) : List (Nat × Nat) :=
  match r.table.rowOf k, r.queue.find? fun e => e.station = k with
  | some row, _ => [(4, rowCode row), (1, 1), (3, 0)]
  | none, some e => [(4, rowCode e.row), (1, 0), (3, 0)]
  | none, none => [(8, 0)]

/-- Bytes 21–37 of a readable record. -/
def State.statusRecord (s : State) (r : Record) : List (Nat × Nat) :=
  [(8, r.column.lots.length), (24, r.column.total)] ++ columnFlags r ++
  [(16, r.column.overdraw), (24, r.effectiveCushion s.settings),
   (1, (r.choked s.settings s.settings.levelCount).toNat), (1, 0), (6, chokeNumber (r.chokeSet s.settings))] ++
  hangUpFields r ++ r.ownClaim s.station

/-- Bytes 21–37: zeros without a record, a free value where one is held and may not be read, the bits that the layout fixes at 0 being 0 all the same (R177; log 3). -/
def State.statusColumn (s : State) : List (Nat × Nat) :=
  match s.recordReadable, s.record with
  | some r, _ => s.statusRecord r
  | none, none => [(136, 0)]
  | none, some _ =>
    let v := (Config.unreadRecordItems s.freeCount).toNat
    [(81, v / 2 ^ 55), (1, 0), (51, v / 2 ^ 3), (3, 0)]

/-- The freeze the host reads: the tracker, or the view in CATCHUP (R114). -/
def State.freezeRead (s : State) : Freeze := if s.rsc.link = .catchup then s.agu.view else s.agu.tracker

/-- Bytes 38–50: agreement. -/
def State.statusAgreement (s : State) : List (Nat × Nat) :=
  let f := s.freezeRead
  [(16, s.agu.digest.toNat), (16, s.agu.majority.toNat), (8, s.agu.compared), (1, f.run.isSome.toNat),
   (3, receiverCode s.agu.receiver), (4, s.agu.failures), (8, (f.run.map FreezeRun.provider).getD 0),
   (16, (f.run.map fun r => r.receivers.toNat).getD 0), (8, (f.run.map FreezeRun.remaining).getD 0),
   (8, f.imageId), (8, s.agu.store.length), (8, (storeTotal s.agu.store).getD 0)]

/-- The five bytes of the pending end arguments. -/
def endArgFields : Option EndArgs → List (Nat × Nat)
  | none => [(40, 0)]
  | some (.tip tonnes held grade) => [(16, tonnes), (16, held), (8, grade)]
  | some (.brk passed cleared) => [(16, passed), (8, cleared.toNat), (16, 0)]

/-- Bytes 51–57: the sequencer. -/
def State.statusSequencer (s : State) : List (Nat × Nat) :=
  [(2, sequencerCode s.tbs.state), (1, s.tbs.claimInQueue.toNat), (3, closingCode s.tbs.closing),
   (1, s.tbs.output.toNat), (1, s.tbs.pendingEnd.isSome.toNat), (8, resultCode s.tbs.lastResult)] ++
  endArgFields s.tbs.pendingEnd

/-- Bytes 58–74: the engine. -/
def State.statusEngine (s : State) : List (Nat × Nat) :=
  let current := orderAmounts s.dre.current
  let next := orderAmounts s.dre.next
  [(3, engineCode s.dre.state), (3, gateCode s.dre.gate), (1, s.dre.claimInQueue.toNat), (1, s.dre.releasePending.toNat),
   (1, s.dre.ownHangup.toNat), (3, outcomeCode s.dre.lastOutcome), (2, orderKindCode s.dre.current),
   (2, orderKindCode s.dre.next), (16, s.dre.strokeCount), (16, current.1), (16, current.2), (16, next.1),
   (16, next.2), (16, s.dre.unannounced), (16, s.dre.queued), (8, s.dre.flowWatch)]

/-- The 75 bytes of READ-STATUS (R177). -/
def State.statusBytes (s : State) : List Byte :=
  packBytes (s.statusRound ++ s.statusLink ++ s.statusColumn ++ s.statusAgreement ++ s.statusSequencer ++
    s.statusEngine)

/-- A free value was used for the record items. -/
def countFree (s : State) : State :=
  if s.recordReadable.isNone && s.record.isSome then { s with freeCount := s.freeCount + 1 } else s

/-- READ_STATUS. -/
def execReadStatus (s : State) : Outcome :=
  request (fun s => answerWith .taken s.statusBytes (countFree s)) s

/-! ### Record reads (R26, R49) -/

/-- A record read: NO-RECORD outside IN-STEP, BAD-ARG where the argument names nothing, else the data. -/
def readRecord (data : Record → Option (List Byte)) (s : State) : State :=
  match s.recordReadable with
  | none => answer .noRecord s
  | some r =>
    match data r with
    | none => answer .badArg s
    | some bytes => answerWith .taken bytes s

/-- The 7 bytes of the lot at an index. -/
def lotBytes (i : Nat) (r : Record) : Option (List Byte) := (r.column.lots[i]?).map fun l => packBytes (lotFields l)

/-- The 4 bytes of a grant: holder, purpose, lease, reservation; zeros for a free row. -/
def grantBytes (g : Option Grant) : List Byte :=
  match g with
  | none => packBytes [(32, 0)]
  | some g => packBytes [(4, g.holder), (4, purposeCode g.purpose), (8, g.lease), (16, g.reservation)]

/-- The 4 bytes of the row a code names; a LEVEL row above L reads as free. -/
def claimBytes (c : Settings) (code : Nat) (r : Record) : Option (List Byte) :=
  (rowOfCode code).map fun row => grantBytes (if rowExists c row then r.table.get row else none)

/-- The 4 bytes of the waiting entry at an index. -/
def waitBytes (i : Nat) (r : Record) : Option (List Byte) := (r.queue[i]?).map fun e => packBytes (waitFields e)

/-- READ_LOT. -/
def execReadLot (index : Byte) (s : State) : Outcome := request (readRecord (lotBytes index.toNat)) s

/-- READ_CLAIM. -/
def execReadClaim (row : Byte) (s : State) : Outcome :=
  request (fun s => readRecord (claimBytes s.settings row.toNat) s) s

/-- READ_WAIT. -/
def execReadWait (index : Byte) (s : State) : Outcome := request (readRecord (waitBytes index.toNat)) s

/-! ### Other reads -/

/-- READ_STRAP: the word in 2 bytes and the valid flag (R174). -/
def execReadStrap (s : State) : Outcome :=
  request (fun s => answerWith .taken (packBytes [(16, s.stl.word.toNat), (8, s.strapValid.toNat)]) s) s

/-- READ_CONDITIONS: the grade and the thirteen bits (R164). -/
def execReadConditions (s : State) : Outcome :=
  request (fun s => answerWith .taken (packBytes [(8, s.grade), (16, s.conditions.toNat)]) s) s

/-- READ_NOTICES: the set and the mask (R168). -/
def execReadNotices (s : State) : Outcome :=
  request (fun s => answerWith .taken (packBytes [(16, s.lpt.notices.toNat), (16, s.lpt.mask.toNat)]) s) s

/-! ### Channels (R153) -/

/-- The 6 reading bytes of a capture. -/
def captureFields (c : Option Capture) : List (Nat × Nat) :=
  match c with
  | none => [(40, 0)]
  | some (.timed stamp time) => [(16, stamp), (16, time), (8, 0)]
  | some .noTime => [(32, 0), (1, 1), (7, 0)]

/-- The 6 reading bytes, by mode (R177). The sensed level of a LINE-OUT is that at the pin, from the command on (log 44). -/
def Channel.readingFields (ch : Channel) : List (Nat × Nat) :=
  match modeOfCode ch.mode.toNat with
  | .off => [(48, 0)]
  | .lineIn => [(1, ((ch.level.map ch.onLevel).getD false).toNat), (47, 0)]
  | .lineOut => [(1, ch.commanded.toNat), (1, (ch.onLevel ch.pin).toNat), (46, 0)]
  | .countIn => [(16, ch.whole), (16, ch.remainder), (16, 0)]
  | .captureIn => captureFields ch.capture ++ [(8, ch.ignored)]
  | .widthIn => [(16, ch.average.getD 0), (32, 0)]

/-- Mode, binding, flags and a reading. -/
def Channel.bytes (ch : Channel) (reading : List (Nat × Nat)) : List Byte :=
  packBytes ([(8, ch.mode.toNat), (8, ch.binding.toNat), (1, ch.ready.toNat), (1, ch.fault.toNat), (6, 0)] ++ reading)

/-- What READ-CHANNEL-TAKE returns: the items, with an empty reading for a COUNT-IN or CAPTURE-IN whose ready is clear. -/
def Channel.takeReading (ch : Channel) : List (Nat × Nat) :=
  if ch.ready = false ∧ (ch.modeIs .countIn ∨ ch.modeIs .captureIn) then [(48, 0)] else ch.readingFields

/-- The take of a channel whose ready is set; one that is clear changes nothing. -/
def takeChannel (i : Nat) (s : State) : State :=
  if (s.channel i).ready then setChannel i (s.channel i).taken s else s

/-- READ_CHANNEL_KEEP. -/
def execReadChannelKeep (channel : Byte) (s : State) : Outcome :=
  request (fun s =>
    if 7 < channel.toNat then answer .badArg s
    else answerWith .taken ((s.channel channel.toNat).bytes (s.channel channel.toNat).readingFields) s) s

/-- A request on a channel that a function does not own: BAD-ARG above 7, BOUND where it is bound. -/
def onLocalChannel (channel : Nat) (act : State → State) (s : State) : State :=
  if 7 < channel then answer .badArg s
  else if !(s.channel channel).isLocal then answer .bound s
  else act s

/-- READ_CHANNEL_TAKE. -/
def execReadChannelTake (channel : Byte) (s : State) : Outcome :=
  request (onLocalChannel channel.toNat fun s =>
    answerWith .taken ((s.channel channel.toNat).bytes (s.channel channel.toNat).takeReading)
      (takeChannel channel.toNat s)) s

/-- ACK_CHANNEL. -/
def execAckChannel (channel : Byte) (s : State) : Outcome :=
  request (onLocalChannel channel.toNat fun s => answer .taken (takeChannel channel.toNat s)) s

/-- SET_OUTPUT. -/
def execSetOutput (channel level : Byte) (s : State) : Outcome :=
  request (onLocalChannel channel.toNat fun s =>
    if !(s.channel channel.toNat).modeIs .lineOut || decide (1 < level.toNat) then answer .badArg s
    else if s.rsc.link = .halted then answer .notInStep s
    else
      answer .taken (setChannel channel.toNat ((s.channel channel.toNat).command (decide (level.toNat = 1))) s)) s

end Sys2Proof.Machine
end

