-- ==== Sys2Proof/Machine/Ticks.lean ====
section
/-! DEFINITION. What a mark of link time brings when no command waits (log 7): the moments of the plan that are due (R69–R73, R78, R79), round time (R67) and the field ticks that fall in the mark (R133, R146, R150, R174). -/

namespace Sys2Proof.Machine

/-! ### Moments due at the present round time, the line quiet -/

/-- The STATUS checks due. -/
def checksDue (s : State) : State :=
  allStations.foldl
    (fun s k =>
      if (s.settings.slotOf k).any fun p => p.2.mark + Config.frameAllowance = s.rsc.roundTime then statusCheck k s
      else s) s

/-- The station's own STATUS slot where it is due. -/
def slotDue (s : State) : State :=
  if (s.settings.slotOf s.station).any fun p => p.2.mark = s.rsc.roundTime then statusSlot false s else s

/-- The windows due. -/
def windowsDue (s : State) : State :=
  (List.range s.settings.walk.length).foldl
    (fun s i => if (s.settings.walk[i]?).any fun e => e.mark = s.rsc.roundTime then openWindow i false s else s) s

/-- The opening bid where it is due. -/
def bidDue (s : State) : State := if s.bidMark = some s.rsc.roundTime then openingBid false s else s

/-- The watch, or the end of a LISTEN span, where it is due. -/
def watchDue (s : State) : State :=
  match s.settings.markOf .watch with
  | none => s
  | some m =>
    if s.rsc.link = .listen then
      if m + Config.frameAllowance = s.rsc.roundTime then listenSpanEnd s else s
    else if m = s.rsc.roundTime then watchExpiry s
    else s

/-- Every moment of the plan due now; in OFFLINE round time does not run and none is (R67). -/
def planDue (s : State) : State :=
  if s.rsc.link = .offline then s else watchDue (bidDue (windowsDue (slotDue (checksDue s))))

/-! ### Time -/

/-- Round time advances by one mark, in every link state but OFFLINE, and never passes 4095 (R67). -/
def markPasses (s : State) : State :=
  if s.rsc.link = .offline then s
  else { s with rsc := { s.rsc with roundTime := min (s.rsc.roundTime + 1) Config.lastRoundTime } }

/-- The microseconds of a mark at the strapped rate, with the field tick where one falls in it. -/
def fieldTimePasses (s : State) : State :=
  let now := s.microseconds + Config.markMicros s.rate
  if now < Config.fieldTickMicros then { s with microseconds := now }
  else fieldTick { s with microseconds := now - Config.fieldTickMicros }

/-- One mark. -/
def tick (s : State) : State := finish (fieldTimePasses (markPasses (planDue s)))

end Sys2Proof.Machine
end

