-- ==== Sys2Proof/Machine/Dispatch.lean ====
section
/-! DEFINITION. The meaning of every command: one arm per row of spec/opcode_table.json. -/

namespace Sys2Proof.Machine

/-- The effect of a command on everything but the queue. -/
def exec (i : Instr) (s : State) : Host.Outcome State Fault Refusal :=
  match i with
  | .resetLine => Sys2Proof.Machine.execResetLine s
  | .strapLoad word => Sys2Proof.Machine.execStrapLoad word s
  | .requestCodeByte code => Sys2Proof.Machine.execRequestCodeByte code s
  | .configWrite item index value => Sys2Proof.Machine.execConfigWrite item index value s
  | .configRead item index => Sys2Proof.Machine.execConfigRead item index s
  | .configDone => Sys2Proof.Machine.execConfigDone s
  | .enterConfig => Sys2Proof.Machine.execEnterConfig s
  | .restart => Sys2Proof.Machine.execRestart s
  | .faultClear => Sys2Proof.Machine.execFaultClear s
  | .holdSet => Sys2Proof.Machine.execHoldSet s
  | .holdClear => Sys2Proof.Machine.execHoldClear s
  | .tipBegin => Sys2Proof.Machine.execTipBegin s
  | .tipEnd tonnes held grade => Sys2Proof.Machine.execTipEnd tonnes held grade s
  | .tipAbandon => Sys2Proof.Machine.execTipAbandon s
  | .breakBegin => Sys2Proof.Machine.execBreakBegin s
  | .breakEnd passed cleared => Sys2Proof.Machine.execBreakEnd passed cleared s
  | .breakAbandon => Sys2Proof.Machine.execBreakAbandon s
  | .drawQueue kind amount => Sys2Proof.Machine.execDrawQueue kind amount s
  | .drawStop => Sys2Proof.Machine.execDrawStop s
  | .gateReset => Sys2Proof.Machine.execGateReset s
  | .unhang => Sys2Proof.Machine.execUnhang s
  | .sight measured => Sys2Proof.Machine.execSight measured s
  | .accessBegin => Sys2Proof.Machine.execAccessBegin s
  | .accessEnd => Sys2Proof.Machine.execAccessEnd s
  | .readStatus => Sys2Proof.Machine.execReadStatus s
  | .readLot index => Sys2Proof.Machine.execReadLot index s
  | .readClaim row => Sys2Proof.Machine.execReadClaim row s
  | .readWait index => Sys2Proof.Machine.execReadWait index s
  | .readStrap => Sys2Proof.Machine.execReadStrap s
  | .readConditions => Sys2Proof.Machine.execReadConditions s
  | .readNotices => Sys2Proof.Machine.execReadNotices s
  | .clearNotices set => Sys2Proof.Machine.execClearNotices set s
  | .setMask set => Sys2Proof.Machine.execSetMask set s
  | .readChannelKeep channel => Sys2Proof.Machine.execReadChannelKeep channel s
  | .readChannelTake channel => Sys2Proof.Machine.execReadChannelTake channel s
  | .ackChannel channel => Sys2Proof.Machine.execAckChannel channel s
  | .setOutput channel level => Sys2Proof.Machine.execSetOutput channel level s
  | .openingFrame sender round sequence paused config => Sys2Proof.Machine.execOpeningFrame sender round sequence paused config s
  | .statusFrame sender fields time => Sys2Proof.Machine.execStatusFrame sender fields time s
  | .hangupFrame sender chute => Sys2Proof.Machine.execHangupFrame sender chute s
  | .unhangFrame sender chute => Sys2Proof.Machine.execUnhangFrame sender chute s
  | .releaseFrame sender row => Sys2Proof.Machine.execReleaseFrame sender row s
  | .withdrawFrame sender row => Sys2Proof.Machine.execWithdrawFrame sender row s
  | .drawFrame sender chute tonnes => Sys2Proof.Machine.execDrawFrame sender chute tonnes s
  | .lotInFrame sender level tonnes held grade => Sys2Proof.Machine.execLotInFrame sender level tonnes held grade s
  | .brokenFrame sender level cleared passed => Sys2Proof.Machine.execBrokenFrame sender level cleared passed s
  | .sightingFrame sender measured => Sys2Proof.Machine.execSightingFrame sender measured s
  | .claimFrame sender row purpose => Sys2Proof.Machine.execClaimFrame sender row purpose s
  | .catchupFrame sender provider => Sys2Proof.Machine.execCatchupFrame sender provider s
  | .caughtFrame sender outcome => Sys2Proof.Machine.execCaughtFrame sender outcome s
  | .frameDiscard bits start => Sys2Proof.Machine.execFrameDiscard bits start s
  | .ownFrameFailure read => Sys2Proof.Machine.execOwnFrameFailure s read
  | .arbitrationLoss read => Sys2Proof.Machine.execArbitrationLoss s read
  | .statusSlot lineBusy => Sys2Proof.Machine.execStatusSlot lineBusy s
  | .statusCheck owner => Sys2Proof.Machine.execStatusCheck owner s
  | .window entry lineBusy => Sys2Proof.Machine.execWindow entry lineBusy s
  | .openingBid lineBusy => Sys2Proof.Machine.execOpeningBid lineBusy s
  | .watchExpiry => Sys2Proof.Machine.execWatchExpiry s
  | .listenSpanEnd => Sys2Proof.Machine.execListenSpanEnd s
  | .joiningDecision => Sys2Proof.Machine.execJoiningDecision s
  | .leaseExpiry row => Sys2Proof.Machine.execLeaseExpiry row s
  | .waitLimitRemoval station => Sys2Proof.Machine.execWaitLimitRemoval station s
  | .freezeLimit => Sys2Proof.Machine.execFreezeLimit s
  | .retryDue => Sys2Proof.Machine.execRetryDue s
  | .dwellComplete => Sys2Proof.Machine.execDwellComplete s
  | .flowTimeout => Sys2Proof.Machine.execFlowTimeout s
  | .hostSilent => Sys2Proof.Machine.execHostSilent s
  | .gateStuck => Sys2Proof.Machine.execGateStuck s
  | .debouncedLevelChange channel high ticks => Sys2Proof.Machine.execDebouncedLevelChange channel high ticks s
  | .countInEdge channel rising ticked => Sys2Proof.Machine.execCountInEdge channel rising s ticked
  | .captureInEdge channel rising ticked => Sys2Proof.Machine.execCaptureInEdge channel rising s ticked
  | .widthInPulse channel width whole => Sys2Proof.Machine.execWidthInPulse channel width whole s
  | .readbackFault channel ticks => Sys2Proof.Machine.execReadbackFault channel ticks s
  | .readbackAgree channel => Sys2Proof.Machine.execReadbackAgree channel s
  | .receiverReturnsToWaiting => Sys2Proof.Machine.execReceiverReturnsToWaiting s

end Sys2Proof.Machine
end

