-- ==== Sys2Proof/Safety.lean ====
section
/-! DEFINITION. The terms in which statements about a station are made: the requests of the host, what the end of a step may change, and the laws of the device that every step keeps. -/

namespace Sys2Proof

/-- The command is a request that the Local Port tests and answers (R165, R166). -/
def Instr.isRequest : Instr → Bool
  | .configWrite _ _ _ | .configRead _ _ | .configDone | .enterConfig | .restart | .faultClear
  | .holdSet | .holdClear | .tipBegin | .tipEnd _ _ _ | .tipAbandon | .breakBegin | .breakEnd _ _
  | .breakAbandon | .drawQueue _ _ | .drawStop | .gateReset | .unhang | .sight _ | .accessBegin
  | .accessEnd | .readStatus | .readLot _ | .readClaim _ | .readWait _ | .readStrap
  | .readConditions | .readNotices | .clearNotices _ | .setMask _ | .readChannelKeep _
  | .readChannelTake _ | .ackChannel _ | .setOutput _ _ => true
  | .resetLine | .strapLoad _ | .requestCodeByte _ | .openingFrame _ _ _ _ _ | .statusFrame _ _ _
  | .hangupFrame _ _ | .unhangFrame _ _ | .releaseFrame _ _ | .withdrawFrame _ _ | .drawFrame _ _ _
  | .lotInFrame _ _ _ _ _ | .brokenFrame _ _ _ _ | .sightingFrame _ _ | .claimFrame _ _ _
  | .catchupFrame _ _ | .caughtFrame _ _ | .frameDiscard _ _ | .ownFrameFailure _ | .arbitrationLoss _
  | .statusSlot _ | .statusCheck _ | .window _ _ | .openingBid _ | .watchExpiry | .listenSpanEnd
  | .joiningDecision | .leaseExpiry _ | .waitLimitRemoval _ | .freezeLimit | .retryDue
  | .dwellComplete | .flowTimeout | .hostSilent | .gateStuck | .debouncedLevelChange _ _ _
  | .countInEdge _ _ _ | .captureInEdge _ _ _ | .widthInPulse _ _ _ | .readbackFault _ _
  | .readbackAgree _ | .receiverReturnsToWaiting => false

/-- The width in bits of the configuration item with a code, where an index names an element of it (R172, R177). -/
def itemWidth (item index : Nat) : Option Nat :=
  if item = 0x01 ∨ item = 0x03 ∨ (0x07 ≤ item ∧ item ≤ 0x0A) then some 8
  else if item = 0x02 ∧ index ≤ 39 then some 32
  else if item = 0x04 ∧ 1 ≤ index ∧ index ≤ 6 then some 16
  else if item = 0x05 ∨ item = 0x06 ∨ item = 0x0B ∨ item = 0x0C then some 16
  else if (item = 0x20 ∨ item = 0x23) ∧ index ≤ 7 then some 8
  else if (item = 0x21 ∨ item = 0x22) ∧ index ≤ 7 then some 16
  else if item = 0x30 ∨ item = 0x32 ∨ item = 0x33 ∨ item = 0x34 then some 8
  else if item = 0x31 ∨ item = 0x35 then some 16
  else none

end Sys2Proof

namespace Sys2Proof.Machine

/-! ### What the end of a step may change -/

/-- A channel without what its drive shows: commanded level, grace count and pin. -/
def Channel.lessDrive (ch : Channel) : Channel := { ch with commanded := false, graceCount := 0, pin := false }

/-- `t` is `u` after the activities have taken the terms `u` leaves (R127, R133, R134, R141, R143): only the sequencer's output, the engine's running state, the gate with its valves, the drive of output channels and the GATE notice may differ, and an engine that is IDLE, ASKING or HUNG stays so. -/
def State.settledFrom (u t : State) : Prop :=
  t = { u with
    tbs := { u.tbs with output := t.tbs.output }
    dre := { u.dre with
      state := t.dre.state, gate := t.dre.gate, strokeCount := t.dre.strokeCount
      flowWatch := t.dre.flowWatch, openValve := t.dre.openValve, closeValve := t.dre.closeValve }
    fca := { u.fca with channels := t.fca.channels }
    lpt := { u.lpt with notices := t.lpt.notices } } ∧
  t.fca.channels.map Channel.lessDrive = u.fca.channels.map Channel.lessDrive ∧
  (∀ n, n ≠ .gate → t.notice n = u.notice n) ∧
  (u.dre.state = .idle ∨ u.dre.state = .asking ∨ u.dre.state = .hung → t.dre.state = u.dre.state)

/-- A frame command reaches the blocks: received from another station, or the station's own read back intact (R56). -/
def State.delivers (s : State) (i : Instr) (sender : BitVec 4) (time : Nat) : Prop :=
  s.arrival i sender.toNat time = .received ∨ s.arrival i sender.toNat time = .own

/-- The configuration and the strap word stay, and so do field time, the free values used and the commands that wait. -/
def State.sameSetting (s t : State) : Prop :=
  t.settings = s.settings ∧ t.stl = s.stl ∧ t.microseconds = s.microseconds ∧ t.freeCount = s.freeCount ∧
  t.pending = s.pending ∧ t.lpt.mask = s.lpt.mask ∧ t.lpt.configDigest = s.lpt.configDigest ∧
  t.lpt.holdRequest = s.lpt.holdRequest ∧ t.lpt.answer = s.lpt.answer ∧ t.lpt.readData = s.lpt.readData

/-- What an event frame leaves as it was beside the record and the activities it concerns: the setting, the round but for a restart of round time, the inputs, the counts of the line, and the tonnes not yet announced. -/
def State.besideRecord (s t : State) : Prop :=
  s.sameSetting t ∧ t.rsc = { s.rsc with roundTime := t.rsc.roundTime } ∧
  t.fca.channels.map Channel.lessDrive = s.fca.channels.map Channel.lessDrive ∧
  t.fca.keptSighting = s.fca.keptSighting ∧ t.lpt.countdown = s.lpt.countdown ∧
  t.lkc.badFrames = s.lkc.badFrames ∧ t.dre.unannounced = s.dre.unannounced

/-- What a frame of another station leaves of the line, the queue and the activities: a sending goes on, the counts of the line stay, the queue only grows at its newest end, the claims in queue, the frames a session keeps and the tonnes of the engine stay. -/
def State.keepsLine (s t : State) : Prop :=
  t.lkc = { s.lkc with
    queue := t.lkc.queue, discarding := t.lkc.discarding, restartAtReturn := t.lkc.restartAtReturn } ∧
  s.lkc.queue <+: t.lkc.queue ∧
  t.tbs = { s.tbs with state := t.tbs.state, lastResult := t.tbs.lastResult, output := t.tbs.output } ∧
  t.dre.claimInQueue = s.dre.claimInQueue ∧
  t.dre.ownHangup = s.dre.ownHangup ∧
  t.dre.unannounced = s.dre.unannounced ∧ t.dre.queued = s.dre.queued ∧
  t.dre.keptHangup = s.dre.keptHangup ∧
  t.lpt.accessClaim = s.lpt.accessClaim

/-- The COLUMN and CHOKE notices of an application that makes `applied` of the record `r`, and of the scan that makes `final` of it: COLUMN where a lot or a column-wide field changes, CHOKE where the choke set changes at either (R10, R11). -/
def State.columnNotices (s : State) (r applied final : Record) (t : State) : Prop :=
  t.notice .column = (s.notice .column || decide (applied.column ≠ r.column)) ∧
  t.notice .choke =
    (s.notice .choke || decide (applied.chokeSet s.settings ≠ r.chokeSet s.settings) ||
      decide (final.chokeSet s.settings ≠ applied.chokeSet s.settings))

/-- What LOST of one of its own rows brings a station, with the notice (R35, R122, R137, R138, R171): a GRANTED session ends with LOST and its output off; the engine has no release pending, and one with its row in use is IDLE, its orders ended with LOST and its gate not open; a held access is IDLE. An activity that does not use the row goes on as it was; one in ASKING may be granted by a scan in the same step, which a station that holds a row cannot be in a lawful record. -/
def State.losesRow (s : State) (row : Row) (t : State) : Prop :=
  t.notice .lost = true ∧
  (isLevel row = true →
    (s.tbs.state = .granted → t.tbs.state = .idle ∧ t.tbs.lastResult = .lost ∧ t.tbs.output = false) ∧
    (s.tbs.state = .idle ∨ s.tbs.state = .ending →
      t.tbs = { s.tbs with output := t.tbs.output, keptRelease := t.tbs.keptRelease })) ∧
  (row = .chute1 ∨ row = .chute2 →
    (t.dre.releasePending = false ∨
      (s.dre.state = .asking ∧ ∃ r, s.record = some r ∧ r.waits s.station = true)) ∧
    (s.dre.state = .running ∨ s.dre.state = .dwelling ∨ s.dre.state = .suspended →
      t.dre.state = .idle ∧ t.dre.gate ≠ .opening ∧ t.dre.gate ≠ .isOpen ∧
      (s.dre.current ≠ none →
        t.dre.current = none ∧ t.dre.next = none ∧ t.dre.lastOutcome = .lost ∧ t.notice .orderDone = true)) ∧
    (s.dre.state = .idle ∨ s.dre.state = .hung →
      t.dre.state = s.dre.state ∧ t.dre.current = s.dre.current ∧ t.dre.next = s.dre.next)) ∧
  (row = .access →
    (s.lpt.access = .held → t.lpt.access = .idle) ∧ (s.lpt.access = .idle → t.lpt.access = .idle))

/-- What REFUSED for a row brings the station it is handed at, with the notice (R34, R43, R117, R121, R132, R171): an asking activity whose own CLAIM is no longer queued is IDLE, the engine's orders ended with LOST; any other goes on as it was, one whose own CLAIM is still queued among them (log 42). -/
def State.refusesRow (s : State) (row : Row) (t : State) : Prop :=
  t.notice .refused = true ∧
  (isLevel row = true →
    (s.tbs.state = .asking → t.tbs.claimInQueue = false → t.tbs.state = .idle ∧ t.tbs.lastResult = .refused) ∧
    (s.tbs.state ≠ .asking ∨ t.tbs.claimInQueue = true →
      t.tbs = { s.tbs with output := t.tbs.output, claimInQueue := t.tbs.claimInQueue })) ∧
  (row = .chute1 ∨ row = .chute2 →
    (s.dre.state = .asking → t.dre.claimInQueue = false → t.dre.state = .idle ∧
      (s.dre.current ≠ none →
        t.dre.current = none ∧ t.dre.next = none ∧ t.dre.lastOutcome = .lost ∧ t.notice .orderDone = true)) ∧
    (s.dre.state = .asking → t.dre.claimInQueue = true → t.dre.state = .asking) ∧
    (s.dre.state ≠ .asking ∨ t.dre.claimInQueue = true →
      t.dre.current = s.dre.current ∧ t.dre.next = s.dre.next)) ∧
  (row = .access →
    (s.lpt.access = .asking → t.lpt.accessClaim = false → t.lpt.access = .idle) ∧
    (s.lpt.access ≠ .asking ∨ t.lpt.accessClaim = true → t.lpt.access = s.lpt.access))

/-- What GRANTED for a row, at the CLAIM's application or at a scan, brings the station it is handed at, with the notice (R34, R117, R121, R132, R135, R136, R171): an asking activity whose own CLAIM is no longer queued is granted, the engine's current order started or ended at once by the cushion; any other goes on as it was with its output off, one whose own CLAIM is still queued among them: a stray grant (log 42). -/
def State.grantsRow (s : State) (row : Row) (t : State) : Prop :=
  t.notice .granted = true ∧
  (isLevel row = true →
    (s.tbs.state = .asking → t.tbs.claimInQueue = false → t.tbs.state = .granted ∧ t.tbs.lastResult = .granted) ∧
    (s.tbs.state ≠ .asking ∨ t.tbs.claimInQueue = true →
      t.tbs = { s.tbs with output := t.tbs.output, claimInQueue := t.tbs.claimInQueue } ∧
      (s.tbs.state ≠ .granted → t.tbs.output = false))) ∧
  (row = .chute1 ∨ row = .chute2 →
    (s.dre.state = .asking → t.dre.claimInQueue = false →
      (∀ amount left, s.dre.current = some (.dwell amount left) →
        t.dre.current = some (.dwell amount amount) ∧ t.dre.next = s.dre.next ∧
        t.dre.state = if s.causeStands = true then .suspended else .dwelling) ∧
      (∀ target drawn, s.dre.current = some (.draw target drawn) → s.cushionFails = false →
        t.dre.current = some (.draw target 0) ∧ t.dre.next = s.dre.next ∧
        t.dre.state = if s.causeStands = true then .suspended else .running) ∧
      (∀ target drawn, s.dre.current = some (.draw target drawn) → s.cushionFails = true →
        t.dre.lastOutcome = .cushion ∧ t.notice .orderDone = true ∧
        (s.dre.next = none → t.dre.current = none ∧ t.dre.state = .idle))) ∧
    (s.dre.state = .asking → t.dre.claimInQueue = true → t.dre.state = .asking) ∧
    (s.dre.state ≠ .asking ∨ t.dre.claimInQueue = true →
      t.dre.current = s.dre.current ∧ t.dre.next = s.dre.next)) ∧
  (row = .access →
    (s.lpt.access = .asking → t.lpt.accessClaim = false → t.lpt.access = .held) ∧
    (s.lpt.access ≠ .asking ∨ t.lpt.accessClaim = true → t.lpt.access = s.lpt.access))

/-- What an event at the pin of channel `i` leaves as it was: round, record, agreement, configuration, the state of sequencer and access, and every other channel but for what a drive shows. -/
def State.besideChannel (i : Nat) (s t : State) : Prop :=
  t.rsc = s.rsc ∧ t.record = s.record ∧ t.agu = s.agu ∧ t.settings = s.settings ∧ t.stl = s.stl ∧
  t.microseconds = s.microseconds ∧ t.freeCount = s.freeCount ∧ t.pending = s.pending ∧
  t.lpt = { s.lpt with notices := t.lpt.notices, access := t.lpt.access, accessClaim := t.lpt.accessClaim } ∧
  t.lkc.badFrames = s.lkc.badFrames ∧ t.lkc.ownFailures = s.lkc.ownFailures ∧ t.lkc.sending = s.lkc.sending ∧
  ∀ j, j ≠ i → (t.channel j).lessDrive = (s.channel j).lessDrive

/-- No condition changes but the listed ones, and STARVED, which an own frame that leaves the head of the queue ends (R64). -/
def State.sameConditions (s t : State) (but : List Condition) : Prop :=
  ∀ c, c ∉ but → c ≠ .starved → t.active c = s.active c

/-- The record an application leaves after its own changes: scanned, unless the round is paused or the record is frozen (R37). -/
def State.afterScan (s : State) (r : Record) : Record :=
  if s.rsc.paused || s.frozen then r else r.scanned s.settings

/-- The state RESTART and ENTER-CONFIG leave, with link state `l` (R2, R65, R67, R84, R113, R115, R130, R155, R156, R175): every block as after the reset line but for the round counters, a gate that was not SHUT, the channel settings, the configuration, the strap word and the hold request. -/
def State.restartedFrom (s : State) (l : LinkState) (t : State) : Prop :=
  t.rsc = { Rsc.reset with link := l, roundNumber := s.rsc.roundNumber, sequence := s.rsc.sequence } ∧
  t.record = none ∧ t.lkc = Lkc.reset ∧ t.agu = Agu.reset ∧ t.tbs = Tbs.reset ∧ t.conditions = 0 ∧
  t.dre = { Dre.reset with
    gate := if s.dre.gate = .shut then .shut else .closing, closeValve := decide (s.dre.gate ≠ .shut) } ∧
  t.fca.sightingCount = 255 ∧ t.fca.keptSighting = none ∧
  t.fca.channels.map Channel.lessDrive = s.fca.channels.map (fun ch =>
    { Channel.reset with mode := ch.mode, x := ch.x, y := ch.y, binding := ch.binding }) ∧
  t.settings = s.settings ∧ t.stl = s.stl ∧
  t.lpt = { s.lpt with
    notices := BitVec.twoPow 16 (noticeBit .state), countdown := s.settings.hostInterval.toNat
    access := .idle, accessClaim := false, answer := some .taken, readData := [] } ∧
  t.microseconds = s.microseconds ∧ t.freeCount = s.freeCount ∧ t.pending = s.pending

/-! ### Laws of the device -/

/-- The lists of the state have the lengths their items have: 40 plan entries, 6 chokes, 8 channels, 12 stations. -/
def State.shaped (s : State) : Prop :=
  s.settings.plan.length = 40 ∧ s.settings.chokes.length = 6 ∧ s.fca.channels.length = 8 ∧
  s.rsc.miss.length = 12 ∧ s.rsc.slotFrames.length = 12 ∧ s.rsc.heard.length = 12 ∧ s.rsc.lastHeard.length = 12

/-- Every lot has tonnes or is OPEN, and an OPEN lot carries held tonnes of 1 or more (R4). -/
def Lot.lawful (l : Lot) : Bool :=
  (decide (1 ≤ l.tonnes) || l.held.isSome) && (match l.held with | none => true | some h => decide (1 ≤ h))

/-- The counting laws of a record: lots with held LEVEL rows at most 32, waiting entries at most 8, every lot lawful (R3, R4, R32). -/
def Record.counts (r : Record) : Prop :=
  r.column.lots.length + r.table.heldLevels ≤ 32 ∧ r.queue.length ≤ 8 ∧ ∀ l ∈ r.column.lots, l.lawful = true

/-- Lot numbers are unique, and they and the next lot number lie in 0–65535 (R3, R5). -/
def Record.numbered (r : Record) : Prop :=
  (r.column.lots.map Lot.number).Nodup ∧ (∀ l ∈ r.column.lots, l.number ≤ 65535) ∧ r.column.nextLot ≤ 65535

/-- The laws of the claim table: no station twice among holders and waiting entries, ACCESS alone, no CHUTE row while HUNG (R31). -/
def Record.claimsLawful (r : Record) : Prop :=
  (r.table.holders ++ r.queue.map WaitEntry.station).Nodup ∧
  (r.table.held .access = true → ∀ row, row ≠ .access → r.table.held row = false) ∧
  (r.column.hung.isSome = true → r.table.held .chute1 = false ∧ r.table.held .chute2 = false)

/-- Row and purpose of a claim belong together (R29). -/
def purposeFits (row : Row) (p : Purpose) : Bool :=
  match row with
  | .level1 | .level2 | .level3 | .level4 | .level5 | .level6 => decide (p = .tip) || decide (p = .brk)
  | .chute1 | .chute2 => decide (p = .draw)
  | .access => decide (p = .access)

/-- Every waiting entry has a purpose that fits its row (R29, R32). -/
def Record.entriesFit (r : Record) : Prop := ∀ e ∈ r.queue, purposeFits e.row e.purpose = true

/-- The law holds of the record, where one is held. -/
def State.recordHas (p : Record → Prop) (s : State) : Prop := ∀ r, s.record = some r → p r

/-- The event transmit queue: at most 8 frames other than CATCHUP and CAUGHT, at most one of those, at most one DRAW (R60). -/
def State.queueLaw (s : State) : Prop :=
  eventCount s.lkc.queue ≤ 8 ∧ (s.lkc.queue.filter EventFrame.isCatchup).length ≤ 1 ∧
  (s.lkc.queue.filter fun f => f.drawTonnes.isSome).length ≤ 1

/-- The commanded output is on exactly while every condition of R126 holds. -/
def State.outputLaw (s : State) : Prop := s.tbs.output = s.outputTerms

/-- The open valve is on only while every term of R134 holds. -/
def State.valveLaw (s : State) : Prop := s.dre.openValve = true → s.gateTerms = true

/-- A station at grade G3 is HALTED (R90, R161). -/
def State.gradeLaw (s : State) : Prop := 3 ≤ s.grade → s.rsc.link = .halted

/-- An OFFLINE or HALTED station sends nothing (R50, R61, R90). -/
def State.silenceLaw (s : State) : Prop :=
  s.rsc.link = .offline ∨ s.rsc.link = .halted → s.lkc.sending = none

/-- What a link state says of record, receiver, tracker and view: a record is held in CATCHUP, IN-STEP or HALTED only, and always in IN-STEP; the receiver is at work exactly in CATCHUP, but for what HALTED keeps, and INSTALLING only with a record; only an IN-STEP tracker and a CATCHUP view stand frozen, but for what HALTED keeps (R2, R83, R102, R107, R109, R113). -/
def State.linkLaw (s : State) : Prop :=
  (s.record ≠ none → s.rsc.link = .catchup ∨ s.rsc.link = .inStep ∨ s.rsc.link = .halted) ∧
  (s.rsc.link = .inStep → s.record ≠ none) ∧
  (s.agu.receiver ≠ .idle → s.rsc.link = .catchup ∨ s.rsc.link = .halted) ∧
  (s.rsc.link = .catchup → s.agu.receiver ≠ .idle) ∧
  (s.agu.receiver = .installing → s.record ≠ none) ∧
  (s.agu.tracker.run ≠ none → s.rsc.link = .inStep ∨ s.rsc.link = .halted) ∧
  (s.agu.view.run ≠ none → s.rsc.link = .catchup ∨ s.rsc.link = .halted)

/-- The order buffer: a current order stands exactly in ASKING, RUNNING, DWELLING and SUSPENDED, a next order only behind a current one, and the kind of the current order is the one RUNNING and DWELLING work on (R130, R131, R135). -/
def State.orderLaw (s : State) : Prop :=
  (s.dre.current ≠ none ↔ s.dre.state = .asking ∨ s.dre.state = .running ∨ s.dre.state = .dwelling ∨
    s.dre.state = .suspended) ∧
  (s.dre.current = none → s.dre.next = none) ∧
  (s.dre.state = .running → ∃ target drawn, s.dre.current = some (.draw target drawn)) ∧
  (s.dre.state = .dwelling → ∃ amount left, s.dre.current = some (.dwell amount left))

/-! ### Safe runs -/

/-- `k` steps from a state all answer a next state. -/
def runsFor : Nat → State → Prop
  | 0, _ => True
  | k + 1, s => ∃ t, step s = .next t ∧ runsFor k t

/-- A run is safe when no step stops: the part has no fault and no refusal, so every run is. -/
def State.safe (s : State) : Prop := ∀ k, runsFor k s

end Sys2Proof.Machine
end

