-- ==== Sys2Proof/WellFormed.lean ====
section
/-! DEFINITION. Which commands can arise at a station: the operand ranges that the widths of Instr do not already give. Meanings are total on every other operand too (log 11). -/

namespace Sys2Proof

/-- A station number: 1–12 (R52). -/
def stationNumber (k : BitVec 4) : Bool := decide (1 ≤ k.toNat ∧ k.toNat ≤ 12)

/-- A round time: 0–4095 (R67). -/
def roundTimeFits (t : Nat) : Bool := decide (t ≤ Config.lastRoundTime)

/-- The checks: a frame has a sender 1–12 (R54), a slot or entry a station 1–12 (R32, R71), a window a place in the 40 entries (R68), a moment a round time (R67), a discard begins with a dominant start bit (R51), a mismatch is a bit read back (R59), and a run of ticks is not empty (R146, R150). -/
def Instr.wellFormed : Instr → Bool
  | .openingFrame k _ _ _ _ => stationNumber k
  | .statusFrame k _ time => stationNumber k && roundTimeFits time
  | .hangupFrame k _ => stationNumber k
  | .unhangFrame k _ => stationNumber k
  | .releaseFrame k _ => stationNumber k
  | .withdrawFrame k _ => stationNumber k
  | .drawFrame k _ _ => stationNumber k
  | .lotInFrame k _ _ _ _ => stationNumber k
  | .brokenFrame k _ _ _ => stationNumber k
  | .sightingFrame k _ => stationNumber k
  | .claimFrame k _ _ => stationNumber k
  | .catchupFrame k _ => stationNumber k
  | .caughtFrame k _ => stationNumber k
  | .ownFrameFailure read => !read.isEmpty
  | .arbitrationLoss read => !read.isEmpty
  | .frameDiscard bits start => decide (bits.head? = some false) && roundTimeFits start
  | .statusCheck owner => stationNumber owner
  | .waitLimitRemoval station => stationNumber station
  | .window entry _ => decide (entry < 40)
  | .debouncedLevelChange _ _ ticks => decide (1 ≤ ticks)
  | .readbackFault _ ticks => decide (1 ≤ ticks)
  | .resetLine | .strapLoad _ | .requestCodeByte _ | .configWrite _ _ _ | .configRead _ _
  | .configDone | .enterConfig | .restart | .faultClear | .holdSet | .holdClear | .tipBegin
  | .tipEnd _ _ _ | .tipAbandon | .breakBegin | .breakEnd _ _ | .breakAbandon | .drawQueue _ _
  | .drawStop | .gateReset | .unhang | .sight _ | .accessBegin | .accessEnd | .readStatus
  | .readLot _ | .readClaim _ | .readWait _ | .readStrap | .readConditions | .readNotices
  | .clearNotices _ | .setMask _ | .readChannelKeep _ | .readChannelTake _ | .ackChannel _
  | .setOutput _ _ | .statusSlot _ | .openingBid _
  | .watchExpiry | .listenSpanEnd | .joiningDecision | .leaseExpiry _ | .freezeLimit | .retryDue
  | .dwellComplete | .flowTimeout | .hostSilent | .gateStuck | .countInEdge _ _ _
  | .captureInEdge _ _ _ | .widthInPulse _ _ _ | .readbackAgree _ | .receiverReturnsToWaiting => true

end Sys2Proof
end

