-- ==== Sys2Proof/Certificates/Slice0/Obligations.lean ====
section
/-! DEFINITION. The statements about the FM628 station that are put to the provers. The docstrings name the rules of spec/ and, where a clause rests on a choice of the model, the log entry. -/

open Sys2Proof Sys2Proof.Machine

/-! ### The ore column -/

/-- R12. The removal walk: from the oldest lot on, each lot gives the smaller of its tonnes and what is still to be removed; an emptied CLOSED lot leaves, an emptied OPEN lot stays; DRAW and a negative sighting correction remove by this walk. -/
def Obligations.RemovalWalkTakesOldestFirst : Prop :=
  (∀ (n : Nat) (lots : List Lot),
    (removeTonnes n lots).remainder = n - totalOf lots ∧
    (removeTonnes n lots).lots =
      lots.zipIdx.filterMap fun p =>
        if n - totalOf (lots.take p.2) = 0 then some p.1
        else if p.1.tonnes - (n - totalOf (lots.take p.2)) = 0 ∧ p.1.held = none then none
        else some { p.1 with tonnes := p.1.tonnes - (n - totalOf (lots.take p.2)) }) ∧
  (∀ (c : Column) (n : Nat), (c.draw n).lots = (removeTonnes n c.lots).lots) ∧
  ∀ (c : Column) (m : Nat), m < c.total → (c.sighted m).lots = (removeTonnes (c.total - m) c.lots).lots

/-- R5, R13. An addition to a lot saturates at 65535 and then marks the column unverified, and nothing else of the column or the lot changes; an addition to the newest lot is one to the last lot of the column, and none to an empty column; an append carries the tonnes it is given, takes the next lot number, or the first one after it, wrapping at 65535, that names no lot, and the next lot number moves past it. -/
def Obligations.AdditionsAndAppendsToTheColumn : Prop :=
  (∀ (c : Column) (i n : Nat) (l : Lot), c.lots[i]? = some l →
      (l.tonnes + n ≤ 65535 → c.addAt i n = { c with lots := c.lots.set i { l with tonnes := l.tonnes + n } }) ∧
      (65535 < l.tonnes + n →
        c.addAt i n = { c with lots := c.lots.set i { l with tonnes := 65535 }, unverified := true }) ∧
      ∀ (kind : LotKind) (source grade : Nat) (held : Option Nat),
        ((c.append kind source grade n held).lots.getLast?).map Lot.tonnes = some n) ∧
  (∀ (c : Column) (n : Nat),
      (c.lots = [] → c.addNewest n = c) ∧ ∀ older newest, c.lots = older ++ [newest] →
        c.addNewest n = { c with
          lots := older ++ [{ newest with tonnes := min (newest.tonnes + n) 65535 }]
          unverified := c.unverified || decide (65535 < newest.tonnes + n) }) ∧
  (∀ (c : Column) (kind : LotKind) (source grade tonnes : Nat) (held : Option Nat),
      c.lots.length ≤ 32 → c.nextLot ≤ 65535 →
      ∃ d, d ≤ c.lots.length ∧
        (∀ e, e < d → ∃ l ∈ c.lots, l.number = (c.nextLot + e) % 65536) ∧
        (∀ l ∈ c.lots, l.number ≠ (c.nextLot + d) % 65536) ∧
        c.append kind source grade tonnes held =
          { c with
            lots := c.lots ++
              [{ number := (c.nextLot + d) % 65536, kind := kind, source := source, gradeClass := grade
                 tonnes := tonnes, held := held }]
            nextLot := (c.nextLot + d + 1) % 65536 })

/-- R10, R14, R15. A LOT-IN applied at an IN-STEP station that is not frozen: the holder's appends its lot and frees its row; any other's marks the column unverified, and is merged into the newest lot where an append would break the lot-count law; the scan follows, and COLUMN and CHOKE are set by what changes. -/
def Obligations.LotInFrameOnTheRecord : Prop :=
  ∀ (s : State) (k : BitVec 4) (level : Byte) (tonnes held : BitVec 12) (grade : Byte) (r : Record) (row : Row),
    s.delivers (.lotInFrame k level tonnes held grade) k 0 → s.rsc.link = .inStep → s.frozen = false →
    s.record = some r → levelRow level.toNat = some row → level.toNat ≤ s.settings.levelCount →
    1 ≤ tonnes.toNat → grade.toNat ≤ 6 →
    ∃ (t : State) (applied : Record), exec (.lotInFrame k level tonnes held grade) s = .next t ∧
      applied =
        (if r.table.holds k.toNat row = true then
          { r with
            column := r.column.append .tipped level.toNat grade.toNat tonnes.toNat
              (if held.toNat = 0 then none else some held.toNat)
            table := r.table.put row none }
        else if r.column.lots.length + r.table.heldLevels ≤ 31 then
          { r with
            column := { r.column with unverified := true }.append .tipped level.toNat grade.toNat tonnes.toNat
              (if held.toNat = 0 then none else some held.toNat) }
        else { r with column := { r.column with unverified := true }.addNewest tonnes.toNat }) ∧
      t.record = some (s.afterScan applied) ∧ s.columnNotices r applied (s.afterScan applied) t ∧
      s.besideRecord t ∧ (k.toNat ≠ s.station → s.keepsLine t) ∧ t.agu = s.agu ∧
      t.fca.sightingCount = s.fca.sightingCount ∧ s.sameConditions t []

/-- R10, R16, R17, R18, R37. What a BROKEN makes of the column: the target is the youngest OPEN lot of its level; the passed tonnes join it where it is the newest lot, else they stand on top as a BROKEN lot of the target's grade class, or UNKNOWN without a target, or merge where an append would break the lot-count law; then the target's held tonnes fall, or a cleared target is CLOSED, and gone if empty. Applied at an IN-STEP station that is not frozen a BROKEN changes the column so, frees the sender's row where the sender holds it, and the scan follows; COLUMN and CHOKE are set by what changes. -/
def Obligations.BrokenFrameOnTheRecord : Prop :=
  (∀ (c : Column) (holder : Bool) (heldLevels level passed : Nat) (cleared : Bool),
      (∀ i, c.target level = some i ↔
        (∃ l, c.lots[i]? = some l ∧ l.held.isSome = true ∧ l.source = level) ∧
        ∀ j l, i < j → c.lots[j]? = some l → ¬(l.held.isSome = true ∧ l.source = level)) ∧
      (c.target level = none →
        (c.broken holder heldLevels level passed cleared) =
          { (if passed = 0 then c
             else if holder = false ∧ 32 ≤ c.lots.length + heldLevels then c.addNewest passed
             else c.append .broken level gradeUnknown passed none) with
            unverified := (c.broken holder heldLevels level passed cleared).unverified }) ∧
      (c.target level = none → holder = true →
        (c.broken holder heldLevels level passed cleared).unverified = c.unverified) ∧
      (∀ i l placed, c.target level = some i → c.lots[i]? = some l →
        placed =
          (if i + 1 = c.lots.length then c.addAt i passed
           else if passed = 0 then c
           else if holder = false ∧ 32 ≤ c.lots.length + heldLevels then c.addNewest passed
           else c.append .broken level l.gradeClass passed none) →
        ∃ m, placed.lots[i]? = some m ∧ m.held = l.held ∧
          (c.broken holder heldLevels level passed cleared).lots =
            (if cleared = false then
               placed.lots.set i { m with held := m.held.map fun h => if h - passed < 1 then 1 else h - passed }
             else if m.tonnes = 0 then placed.lots.eraseIdx i
             else placed.lots.set i { m with held := none }) ∧
          (c.broken holder heldLevels level passed cleared).nextLot = placed.nextLot ∧
          (holder = true → (c.broken holder heldLevels level passed cleared).unverified = placed.unverified)) ∧
      (holder = false → (c.broken holder heldLevels level passed cleared).unverified = true) ∧
      (c.broken holder heldLevels level passed cleared).overdraw = c.overdraw ∧
      (c.broken holder heldLevels level passed cleared).hung = c.hung) ∧
  (∀ (s : State) (k : BitVec 4) (level : Byte) (cleared : Bool) (passed : BitVec 12) (r : Record) (row : Row),
      s.delivers (.brokenFrame k level cleared passed) k 0 → s.rsc.link = .inStep → s.frozen = false →
      s.record = some r → levelRow level.toNat = some row → level.toNat ≤ s.settings.levelCount →
      ∃ (t : State) (applied : Record), exec (.brokenFrame k level cleared passed) s = .next t ∧
        applied =
          { r with
            column := r.column.broken (r.table.holds k.toNat row) r.table.heldLevels level.toNat passed.toNat cleared
            table := if r.table.holds k.toNat row then r.table.put row none else r.table } ∧
        t.record = some (s.afterScan applied) ∧ s.columnNotices r applied (s.afterScan applied) t ∧
        s.besideRecord t ∧ (k.toNat ≠ s.station → s.keepsLine t) ∧ t.agu = s.agu ∧
        t.fca.sightingCount = s.fca.sightingCount ∧ s.sameConditions t [])

/-- R10, R11, R19, R20. A DRAW applied at an IN-STEP station that is not frozen takes its tonnes by the removal walk, NORMAL or HUNG, whoever holds the CHUTE row; a remainder joins the overdraw, marks the column unverified and raises UNDERRUN; COLUMN and CHOKE are set by what changes. -/
def Obligations.DrawFrameOnTheRecord : Prop :=
  ∀ (s : State) (k : BitVec 4) (chute : Byte) (n : Word16) (r : Record),
    s.delivers (.drawFrame k chute n) k 0 → s.rsc.link = .inStep → s.frozen = false → s.record = some r →
    1 ≤ chute.toNat → chute.toNat ≤ 2 → 1 ≤ n.toNat → n.toNat ≤ 4095 →
    ∃ (t : State) (applied : Record), exec (.drawFrame k chute n) s = .next t ∧
      t.record = some (s.afterScan applied) ∧ s.columnNotices r applied (s.afterScan applied) t ∧
      s.besideRecord t ∧ (k.toNat ≠ s.station → s.keepsLine t) ∧ t.agu = s.agu ∧
      t.fca.sightingCount = s.fca.sightingCount ∧ s.sameConditions t [.underrun] ∧
      applied.column.total = r.column.total - n.toNat ∧
      (n.toNat ≤ r.column.total →
        applied = { r with column := { r.column with lots := (removeTonnes n.toNat r.column.lots).lots } } ∧
        t.active .underrun = s.active .underrun) ∧
      (r.column.total < n.toNat →
        applied =
          { r with column :=
              { r.column with
                lots := (removeTonnes n.toNat r.column.lots).lots
                overdraw := min (r.column.overdraw + (n.toNat - r.column.total)) 65535
                unverified := true } } ∧
        t.active .underrun = true)

/-- R10, R11, R21, R22. A SIGHTING applied to a NORMAL column: a shortfall is added to the newest lot, or stands as a FOUND lot in an empty column; an excess leaves by the removal walk; the unverified flag and the overdraw are cleared, UNDERRUN ends, and a correction above the tolerance raises SIGHT-JUMP; COLUMN and CHOKE are set by what changes. On a HUNG column it is ignored. -/
def Obligations.SightingFrameOnTheRecord : Prop :=
  ∀ (s : State) (k : BitVec 4) (m : Word16) (r : Record),
    s.delivers (.sightingFrame k m) k 0 → s.rsc.link = .inStep → s.frozen = false → s.record = some r →
    ∃ (t : State) (applied : Record), exec (.sightingFrame k m) s = .next t ∧
      s.besideRecord t ∧ (k.toNat ≠ s.station → s.keepsLine t) ∧ t.agu = s.agu ∧
      s.sameConditions t [.underrun, .sightJump] ∧
      (r.column.hung ≠ none →
        t.record = some r ∧ t.fca.sightingCount = s.fca.sightingCount ∧ s.sameConditions t [] ∧
        t.notice .column = s.notice .column ∧ t.notice .choke = s.notice .choke) ∧
      (r.column.hung = none →
        t.record = some (s.afterScan applied) ∧ s.columnNotices r applied (s.afterScan applied) t ∧
        applied.column.total = m.toNat ∧ applied.column.unverified = false ∧ applied.column.overdraw = 0 ∧
        t.active .underrun = false ∧
        t.active .sightJump =
          (s.active .sightJump || decide (s.settings.tolerance.toNat < r.column.total - m.toNat) ||
            decide (s.settings.tolerance.toNat < m.toNat - r.column.total)) ∧
        t.fca.sightingCount = (if k.toNat = s.station then 0 else s.fca.sightingCount) ∧
        (m.toNat ≤ r.column.total →
          applied =
            { r with column :=
                { r.column with
                  lots := (removeTonnes (r.column.total - m.toNat) r.column.lots).lots
                  unverified := false, overdraw := 0 } }) ∧
        (r.column.total < m.toNat → r.column.lots = [] →
          applied =
            { r with column :=
                { r.column with unverified := false, overdraw := 0 }.append .found 0 gradeUnknown m.toNat none }) ∧
        (r.column.total < m.toNat → r.column.lots ≠ [] →
          applied =
            { r with column :=
                { r.column with unverified := false, overdraw := 0 }.addNewest (m.toNat - r.column.total) }))

/-- R8, R23, R24, R48, R137, R140. A HANGUP applied at an IN-STEP station, frozen or not: a NORMAL column is HUNG with the hang-up record, a HUNG one stays as it is; both CHUTE rows are free, a freeze ends, and the scan follows unless the round is paused; a station that held one of them is told LOST and has no release pending, while a GRANTED session and a held access stand; the engine of a CHUTE station that is neither HUNG nor FAULTED ends its orders with HUNG, closes its gate and is HUNG. An UNHANG applied to a HUNG column returns it to NORMAL, unverified and without hang-up record, and the scan follows; a HUNG engine without an own hang-up pending leaves HUNG, below grade G2 to IDLE, else to FAULTED, which one whose grade WATCH alone holds leaves at once where its gate is SHUT (log 18); on a NORMAL column an UNHANG is ignored. -/
def Obligations.HangupAndUnhangFramesOnTheRecord : Prop :=
  (∀ (s : State) (k : BitVec 4) (chute : Byte) (r : Record),
      s.delivers (.hangupFrame k chute) k 0 → s.rsc.link = .inStep → s.record = some r →
      1 ≤ chute.toNat → chute.toNat ≤ 2 →
      ∃ t base, exec (.hangupFrame k chute) s = .next t ∧ s.besideRecord t ∧ (k.toNat ≠ s.station → s.keepsLine t) ∧
        s.sameConditions t [] ∧
        t.fca.sightingCount = s.fca.sightingCount ∧
        t.agu = { s.agu with tracker := { s.agu.tracker with run := none }, snapshot := none } ∧
        (r.column.hung = none →
          base.column =
            { r.column with hung := some { chute := chute.toNat, stamp := s.stamp, total := r.column.total } } ∧
          t.notice .hangup = true) ∧
        (r.column.hung ≠ none → base.column = r.column) ∧
        base.table = (r.table.put .chute1 none).put .chute2 none ∧ base.queue = r.queue ∧
        t.record = some (if s.rsc.paused then base else base.scanned s.settings) ∧
        s.columnNotices r base (if s.rsc.paused then base else base.scanned s.settings) t ∧
        (s.recordHolds s.station .chute1 = true ∨ s.recordHolds s.station .chute2 = true →
          t.notice .lost = true ∧ (s.role = .chute → t.dre.releasePending = false)) ∧
        (s.tbs.state = .granted → t.tbs.state = .granted) ∧ (s.lpt.access = .held → t.lpt.access = .held)) ∧
  (∀ (s : State) (k : BitVec 4) (chute : Byte),
      s.delivers (.hangupFrame k chute) k 0 → s.rsc.link = .inStep → s.record ≠ none → s.role = .chute →
      1 ≤ chute.toNat → chute.toNat ≤ 2 → s.dre.state ≠ .hung → s.dre.state ≠ .faulted →
      ∃ t, exec (.hangupFrame k chute) s = .next t ∧ t.dre.state = .hung ∧
        t.dre.gate ≠ .opening ∧ t.dre.gate ≠ .isOpen ∧
        (s.dre.current ≠ none →
          t.dre.current = none ∧ t.dre.next = none ∧ t.dre.lastOutcome = .hung ∧ t.notice .orderDone = true)) ∧
  (∀ (s : State) (k : BitVec 4) (chute : Byte) (r : Record),
      s.delivers (.unhangFrame k chute) k 0 → s.rsc.link = .inStep → s.frozen = false → s.record = some r →
      1 ≤ chute.toNat → chute.toNat ≤ 2 →
      ∃ t, exec (.unhangFrame k chute) s = .next t ∧ s.besideRecord t ∧ (k.toNat ≠ s.station → s.keepsLine t) ∧
        t.agu = s.agu ∧ s.sameConditions t [] ∧
        t.fca.sightingCount = s.fca.sightingCount ∧
        (r.column.hung = none → t.record = some r) ∧
        (r.column.hung ≠ none →
          t.record = some (s.afterScan { r with column := { r.column with hung := none, unverified := true } }) ∧
          t.notice .hangup = true ∧ t.notice .column = true ∧
          (s.dre.state = .hung → s.dre.ownHangup = true → t.dre.state = .hung) ∧
          (s.dre.state = .hung → s.dre.ownHangup = false →
            (s.grade < 2 → t.dre.state = .idle) ∧ (2 ≤ s.gradeLessWatch → t.dre.state = .faulted) ∧
            (2 ≤ s.grade → s.gradeLessWatch < 2 →
              t.dre.state = if t.dre.gate = .shut then .idle else .faulted))))

/-- R11. A column frame with a field out of range, or at a frozen record but for HANGUP, or outside IN-STEP, changes nothing in the record and raises no condition. That a HANGUP out of range leaves the freeze tracker of an IN-STEP station as well is the model's reading (log 18). -/
def Obligations.IgnoredColumnFrames : Prop :=
  ∀ (s : State) (k : BitVec 4) (c : Instr),
    ((∃ level tonnes held grade, c = .lotInFrame k level tonnes held grade ∧
        (level = 0 ∨ 6 < level.toNat ∨ s.settings.levelCount < level.toNat ∨ tonnes = 0 ∨ 6 < grade.toNat ∨
          s.frozen = true ∨ s.rsc.link ≠ .inStep)) ∨
     (∃ level cleared passed, c = .brokenFrame k level cleared passed ∧
        (level = 0 ∨ 6 < level.toNat ∨ s.settings.levelCount < level.toNat ∨ s.frozen = true ∨
          s.rsc.link ≠ .inStep)) ∨
     (∃ chute n, c = .drawFrame k chute n ∧
        (chute = 0 ∨ 2 < chute.toNat ∨ n = 0 ∨ 4095 < n.toNat ∨ s.frozen = true ∨ s.rsc.link ≠ .inStep)) ∨
     (∃ m, c = .sightingFrame k m ∧ (s.frozen = true ∨ s.rsc.link ≠ .inStep)) ∨
     (∃ chute, c = .unhangFrame k chute ∧
        (chute = 0 ∨ 2 < chute.toNat ∨ s.frozen = true ∨ s.rsc.link ≠ .inStep)) ∨
     (∃ chute, c = .hangupFrame k chute ∧ s.rsc.link ≠ .catchup ∧
        (chute = 0 ∨ 2 < chute.toNat ∨ s.rsc.link ≠ .inStep))) →
    s.delivers c k 0 →
    ∃ t, exec c s = .next t ∧ t.record = s.record ∧ s.besideRecord t ∧ (k.toNat ≠ s.station → s.keepsLine t) ∧
      t.agu = s.agu ∧ s.sameConditions t [] ∧
      t.fca.sightingCount = s.fca.sightingCount ∧
      (∀ n, n ≠ .gate → n ≠ .grade → t.notice n = s.notice n) ∧
      (k.toNat ≠ s.station → t.tbs.state = s.tbs.state ∧ t.dre.current = s.dre.current ∧ t.dre.next = s.dre.next ∧
        t.lkc.queue = s.lkc.queue ∧ t.lpt.access = s.lpt.access)

/-- R25, R87, R88. Founding: the column of a founded record, and the station that founds it at its joining decision, on the slots heard in the round that its round start ends (the part row of log 8). -/
def Obligations.FoundingColumn : Prop :=
  (∀ n, Column.found n =
    { lots :=
        if n = 0 then []
        else [{ number := 65535, kind := .found, source := 0, gradeClass := 7, tonnes := n, held := none }]
      hung := none, unverified := true, overdraw := 0, nextLot := 0 }) ∧
  ∀ s : State, s.rsc.link = .joining → 1 ≤ s.rsc.joiningCount →
    State.qualifyingPeers { s with rsc := { s.rsc with lastHeard := s.rsc.heard } } = [] → s.lowestPresent = true →
    ∃ t r, exec .joiningDecision s = .next t ∧ t.record = some r ∧ t.rsc.link = .inStep ∧
      r.column = Column.found s.settings.founding.toNat ∧
      (∀ row, r.table.get row = none) ∧ r.queue = [] ∧
      r.effectiveCushion s.settings = 2 * s.settings.cushionTonnes

/-! ### Claims on the pass -/

/-- R30. The grant conditions, on the record as it stands; a CHOKED level fails. -/
def Obligations.GrantConditions : Prop :=
  ∀ (c : Settings) (r : Record),
    (∀ k row, 1 ≤ k → k ≤ 6 → levelRow k = some row →
      (r.grantable c row .brk = true ↔
        r.table.get row = none ∧ r.column.hung = none ∧
          r.column.total + r.table.reserved + c.tipReservation.toNat ≤ c.choke k ∧
          r.column.lots.length + r.table.heldLevels + 1 ≤ 32 ∧ r.table.get .access = none) ∧
      (r.grantable c row .tip = true ↔
        r.grantable c row .brk = true ∧ ∀ l ∈ r.column.lots, l.source = k → l.held = none) ∧
      (r.choked c k = true → 1 ≤ c.tipReservation.toNat →
        r.grantable c row .tip = false ∧ r.grantable c row .brk = false)) ∧
    (∀ row, row = .chute1 ∨ row = .chute2 →
      (r.grantable c row .draw = true ↔
        r.table.get row = none ∧ r.column.hung = none ∧ r.table.get .access = none ∧
          r.effectiveCushion c < r.column.total)) ∧
    (r.grantable c .access .access = true ↔ ∀ row, r.table.get row = none) ∧
    ∀ older e rest t,
      scanWalk c r.column older (e :: rest) t =
        if Record.grantable c { r with table := t } e.row e.purpose = true ∧
            ∀ o ∈ older, rowsConflict o.row e.row = false then
          { scanWalk c r.column older rest (t.put e.row (some (newGrant c e.station e.purpose e.reservation))) with
            granted := e ::
              (scanWalk c r.column older rest
                (t.put e.row (some (newGrant c e.station e.purpose e.reservation)))).granted }
        else scanWalk c r.column (older ++ [e]) rest t

/-- R29, R33, R34, R40, R117, R121, R132, R171, R176. Which claims match and which conflict; a CLAIM applied at an IN-STEP station: refused while frozen, for a claim that does not match, and from a sender that waits or holds; else granted at once, appended or dropped; its own station's activity, sequencer, engine or access, is handed the outcome with its notice, and its claim in queue is cleared with the CLAIM that leaves the queue. A row code that names no row acts on nothing but the flags. A CLAIM of an ended session that is applied while the activity's own is still queued behind it moves nothing of that activity (log 42, deduced), the flag being read by the CLAIMs left in the queue (log 11). -/
def Obligations.ClaimFrameOnTheRecord : Prop :=
  ((∀ (c : Settings) (row : Row) (p : Purpose),
      claimMatches c row p = true ↔
        (∃ k, 1 ≤ k ∧ k ≤ 6 ∧ k ≤ c.levelCount ∧ levelRow k = some row ∧ (p = .tip ∨ p = .brk)) ∨
        ((row = .chute1 ∨ row = .chute2) ∧ p = .draw) ∨ (row = .access ∧ p = .access)) ∧
    (∀ a b : Row, rowsConflict a b = true ↔ a = b ∨ a = .access ∨ b = .access) ∧
    ∀ (c : Settings) (r : Record) (paused : Bool) (k : Nat) (row : Row) (p : Purpose),
      claimMatches c row p = false → r.claim c paused k row p = r) ∧
  (∀ (s : State) (k : BitVec 4) (code purpose : Byte) (r : Record) (row : Row),
      s.delivers (.claimFrame k code purpose) k 0 → s.rsc.link = .inStep → s.record = some r →
      rowOfCode code.toNat = some row →
      ∃ (t : State) (outcome : ClaimOutcome), exec (.claimFrame k code purpose) s = .next t ∧ s.besideRecord t ∧ (k.toNat ≠ s.station → s.keepsLine t) ∧
        t.agu = s.agu ∧
        s.sameConditions t [] ∧ t.fca.sightingCount = s.fca.sightingCount ∧
        (s.frozen = true → outcome = .refused) ∧
        (purposeOfCode purpose.toNat = none → outcome = .refused) ∧
        (∀ p, s.frozen = false → purposeOfCode purpose.toNat = some p →
          outcome =
            if claimMatches s.settings row p = false ∨ (∃ e ∈ r.queue, e.station = k.toNat) ∨
                (r.table.rowOf k.toNat).isSome = true then .refused
            else if s.rsc.paused = false ∧ (∀ e ∈ r.queue, rowsConflict e.row row = false) ∧
                r.grantable s.settings row p = true then .granted
            else if r.queue.length < 8 then .waiting
            else .refused) ∧
        (outcome = .refused → t.record = some r) ∧
        (∀ p, outcome = .granted → purposeOfCode purpose.toNat = some p →
          t.record = some { r with table := r.table.put row (some
            { holder := k.toNat, purpose := p, lease := s.settings.leaseLength.toNat
              reservation := if isLevel row then s.settings.tipReservation.toNat else 0 }) }) ∧
        (∀ p, outcome = .waiting → purposeOfCode purpose.toNat = some p →
          t.record = some { r with queue := r.queue ++
            [{ station := k.toNat, row := row, purpose := p, age := 0
               reservation := if isLevel row then s.settings.tipReservation.toNat else 0 }] }) ∧
        (k.toNat = s.station →
          (outcome = .granted → s.grantsRow row t) ∧ (outcome = .refused → s.refusesRow row t) ∧
          t.lpt.accessClaim = (s.lpt.accessClaim && t.lkc.queue.any (EventFrame.isClaimFor .access)) ∧
          (∀ own, s.ownRow = some own →
            t.tbs.claimInQueue = (s.tbs.claimInQueue && t.lkc.queue.any (EventFrame.isClaimFor own)) ∧
            t.dre.claimInQueue = (s.dre.claimInQueue && t.lkc.queue.any (EventFrame.isClaimFor own))) ∧
          (s.ownRow = none → t.tbs.claimInQueue = false ∧ t.dre.claimInQueue = false) ∧
          (s.dre.state = .asking → outcome = .waiting → t.dre.state = .asking)) ∧
        (k.toNat ≠ s.station ∨ outcome = .waiting →
          t.notice .granted = s.notice .granted ∧ t.notice .refused = s.notice .refused ∧
            t.lpt.access = s.lpt.access ∧ t.tbs.state = s.tbs.state ∧
            t.dre.current = s.dre.current ∧ t.dre.next = s.dre.next)) ∧
  ∀ (s : State) (k : BitVec 4) (code purpose : Byte),
      s.delivers (.claimFrame k code purpose) k 0 → rowOfCode code.toNat = none →
      ∃ t, exec (.claimFrame k code purpose) s = .next t ∧ t.record = s.record ∧ s.besideRecord t ∧
        (k.toNat ≠ s.station → s.keepsLine t) ∧ t.agu = s.agu ∧ s.sameConditions t [] ∧
        t.fca.sightingCount = s.fca.sightingCount ∧
        (∀ n, n ≠ .gate → n ≠ .grade → t.notice n = s.notice n) ∧
        t.tbs.state = s.tbs.state ∧ t.lpt.access = s.lpt.access ∧
        t.dre.current = s.dre.current ∧ t.dre.next = s.dre.next

/-- R34, R35, R36, R117, R121, R132, R171. A RELEASE at an IN-STEP station that is not frozen frees the row its sender holds; a WITHDRAW removes the sender's waiting entry for the row, or frees the row it holds; the scan follows. Any other is ignored. An own entry that the scan after a RELEASE of another station grants is handed to the activity that asks for it; a stray one, granted while the activity's own CLAIM is still queued, moves nothing of it (log 42, deduced). -/
def Obligations.ReleaseAndWithdrawFramesOnTheRecord : Prop :=
  ∀ (s : State) (k : BitVec 4) (code : Byte) (r : Record),
    s.rsc.link = .inStep → s.record = some r →
    (s.delivers (.releaseFrame k code) k 0 →
      ∃ t, exec (.releaseFrame k code) s = .next t ∧ s.besideRecord t ∧ (k.toNat ≠ s.station → s.keepsLine t) ∧
      t.agu = s.agu ∧ s.sameConditions t [] ∧
        t.fca.sightingCount = s.fca.sightingCount ∧
        (∀ row, rowOfCode code.toNat = some row → rowLevel row ≤ s.settings.levelCount → s.frozen = false →
          r.table.holds k.toNat row = true →
          t.record = some (s.afterScan { r with table := r.table.put row none }) ∧
          (k.toNat ≠ s.station → s.rsc.paused = false →
            ∀ e ∈ (Record.scan s.settings { r with table := r.table.put row none }).granted,
              e.station = s.station → s.grantsRow e.row t)) ∧
        (rowOfCode code.toNat = none ∨ s.frozen = true ∨
          (∃ row, rowOfCode code.toNat = some row ∧
            (s.settings.levelCount < rowLevel row ∨ r.table.holds k.toNat row = false)) →
          t.record = some r)) ∧
    (s.delivers (.withdrawFrame k code) k 0 →
      ∃ t, exec (.withdrawFrame k code) s = .next t ∧ s.besideRecord t ∧ (k.toNat ≠ s.station → s.keepsLine t) ∧
      t.agu = s.agu ∧ s.sameConditions t [] ∧
        t.fca.sightingCount = s.fca.sightingCount ∧
        (∀ row, rowOfCode code.toNat = some row → rowLevel row ≤ s.settings.levelCount → s.frozen = false →
          (r.waitsFor k.toNat row = true →
            t.record = some (s.afterScan
              { r with queue := r.queue.filter fun e => !(e.station = k.toNat && e.row = row) })) ∧
          (r.waitsFor k.toNat row = false → r.table.holds k.toNat row = true →
            t.record = some (s.afterScan { r with table := r.table.put row none }))) ∧
        (rowOfCode code.toNat = none ∨ s.frozen = true ∨
          (∃ row, rowOfCode code.toNat = some row ∧
            (s.settings.levelCount < rowLevel row ∨
              (r.waitsFor k.toNat row = false ∧ r.table.holds k.toNat row = false))) →
          t.record = some r))

/-- R37, R38, R39. One scan is enough: scanning again grants nothing, every granted entry leaves the queue for its row with its own reservation and a full lease, the entries left keep their order, and no entry left is both grantable and free of conflict with every older one. -/
def Obligations.OneScanIsEnough : Prop :=
  ∀ (c : Settings) (r : Record),
    (r.scanned c).scanned c = r.scanned c ∧ ((r.scanned c).scan c).granted = [] ∧
    (r.scan c).queue.Sublist r.queue ∧ (r.scan c).granted.Sublist r.queue ∧
    ((r.scan c).queue ++ (r.scan c).granted).Perm r.queue ∧
    (∀ e ∈ (r.scan c).granted, (r.scanned c).table.get e.row = some
      { holder := e.station, purpose := e.purpose, lease := c.leaseLength.toNat, reservation := e.reservation }) ∧
    (∀ row, r.table.get row ≠ none → (r.scanned c).table.get row = r.table.get row) ∧
    ∀ older e younger, (r.scanned c).queue = older ++ e :: younger →
      (r.scanned c).grantable c e.row e.purpose = false ∨ ∃ o ∈ older, rowsConflict o.row e.row = true

/-- R44, R71, R79, R138. A STATUS frame of an IN-STEP sender under the station's own config digest renews the sender's row where its holding set lists it, and releases the row where it does not, with the scan after the release and LOST for the station's own row; otherwise the table stays. To the round every STATUS frame brings its hold flag, a restart of round time in an UNOPENED span, and in an IN-ROUND span its report where it falls within its sender's own slot. That round time then stands at the frame's at least is the model's convention (log 33), and so is that the last of several such frames in one slot gives the report (log 51). -/
def Obligations.StatusFrameRenewsOrReconciles : Prop :=
  (∀ (s : State) (k : BitVec 4) (f : StatusFields) (time : Nat) (r : Record),
    s.delivers (.statusFrame k f time) k time → s.rsc.link = .inStep → s.record = some r →
    ∃ t, exec (.statusFrame k f time) s = .next t ∧ s.sameSetting t ∧ s.sameConditions t [] ∧ t.agu = s.agu ∧
      (k.toNat ≠ s.station → s.keepsLine t) ∧
      (f.link.toNat ≠ 4 ∨ f.config ≠ s.ownDigest ∨ s.frozen = true ∨ r.table.rowOf k.toNat = none →
        t.record = some r) ∧
      (∀ row, r.table.rowOf k.toNat = some row → f.link.toNat = 4 → f.config = s.ownDigest → s.frozen = false →
        (f.holding.getLsbD (rowCode row - 1) = true →
          t.record = some { r with table := r.table.put row ((r.table.get row).map fun g =>
            { g with lease := s.settings.leaseLength.toNat }) }) ∧
        (f.holding.getLsbD (rowCode row - 1) = false →
          t.record = some (s.afterScan { r with table := r.table.put row none }) ∧
          (k.toNat = s.station → s.losesRow row t)))) ∧
  ∀ (s : State) (k : BitVec 4) (f : StatusFields) (time before : Nat),
    s.delivers (.statusFrame k f time) k time →
    before = (if s.lkc.discarding = true ∧ s.lkc.restartAtReturn = true then 0 else s.rsc.roundTime) →
    ∃ t, exec (.statusFrame k f time) s = .next t ∧
      (s.rsc.span = .unopened →
        t.rsc = { s.rsc with roundTime := 0, holdSeen := s.rsc.holdSeen || f.hold }) ∧
      (s.rsc.span = .inRound →
        t.rsc = { s.rsc with
          roundTime := max before (min time 4095), holdSeen := s.rsc.holdSeen || f.hold
          slotFrames := t.rsc.slotFrames } ∧
        (∀ i e, s.settings.slotOf k.toNat = some (i, e) →
          (e.mark ≤ t.rsc.roundTime ∧ t.rsc.roundTime < e.mark + 40 →
            t.rsc.slotFrames = s.rsc.slotFrames.set (k.toNat - 1)
              (some { link := f.link.toNat, config := f.config, digest := f.digest })) ∧
          (t.rsc.roundTime < e.mark ∨ e.mark + 40 ≤ t.rsc.roundTime → t.rsc.slotFrames = s.rsc.slotFrames)) ∧
        (s.settings.slotOf k.toNat = none → t.rsc.slotFrames = s.rsc.slotFrames))

/-- R41, R42, R43, R121, R122, R132, R138, R171. The claim work of a round start at an IN-STEP station: where the new round is not paused and the freeze, if any, is at its last round, every lease falls by 1 and a lease at 0 frees its row, every entry ages and one at the wait limit leaves, and one scan follows; otherwise the record stays. A station that loses a row is told LOST and its activity gives the row up, unless the host falls silent at the same round start, which is a matter of its own. The part rows of log 8 free one row by lease expiry and remove one entry at the wait limit, each from the state just before its count reaches its end, with LOST and REFUSED at the station concerned and its activity; a stray entry's REFUSED moves nothing of an activity whose own CLAIM is still queued (log 42, deduced). -/
def Obligations.RoundStartClaimWork : Prop :=
  (∀ (s : State) (k : BitVec 4) (round sequence : Byte) (paused : Bool) (r : Record),
      s.delivers (.openingFrame k round sequence paused s.ownDigest) k 0 → round.toNat < 24 →
      s.rsc.link = .inStep → s.record = some r →
      ∃ t, exec (.openingFrame k round sequence paused s.ownDigest) s = .next t ∧
        (paused = true ∨ (∃ run, s.agu.tracker.run = some run ∧ 2 ≤ run.remaining) → t.record = some r) ∧
        (paused = false → (∀ run, s.agu.tracker.run = some run → run.remaining ≤ 1) →
          (∃ counted : Record,
            t.record = some (counted.scanned s.settings) ∧ counted.column = r.column ∧
            (∀ row, counted.table.get row =
              match r.table.get row with
              | none => none
              | some g => if g.lease ≤ 1 then none else some { g with lease := g.lease - 1 }) ∧
            counted.queue =
              (r.queue.filter fun e => e.age < s.settings.waitLimit.toNat).map fun e => { e with age := e.age + 1 }) ∧
          (s.settings.hostInterval = 0 ∨ s.lpt.countdown ≠ 1 →
            ∀ row g, r.table.get row = some g → g.holder = s.station → g.lease ≤ 1 → s.losesRow row t))) ∧
  (∀ (s : State) (r : Record), s.record = some r → s.rsc.link = .inStep → s.rsc.paused = false → s.frozen = false →
      (∀ row g, r.table.get row = some g → g.lease ≤ 1 →
        ∃ t, exec (.leaseExpiry row) s = .next t ∧
          t.record = some (({ r with table := r.table.put row none } : Record).scanned s.settings) ∧
          s.besideRecord t ∧ s.keepsLine t ∧ t.agu = s.agu ∧ s.sameConditions t [] ∧
          (g.holder = s.station → s.losesRow row t)) ∧
      ∀ (k : BitVec 4) e, e ∈ r.queue → e.station = k.toNat → s.settings.waitLimit.toNat ≤ e.age →
        ∃ t, exec (.waitLimitRemoval k) s = .next t ∧
          t.record = some (({ r with queue := r.queue.filter fun e =>
            !(e.station = k.toNat && s.settings.waitLimit.toNat ≤ e.age) } : Record).scanned s.settings) ∧
          s.besideRecord t ∧ s.keepsLine t ∧ t.agu = s.agu ∧ s.sameConditions t [] ∧
          (k.toNat = s.station → s.refusesRow e.row t))

/-! ### The Pass Link -/

/-- R51, R53, R54. What a receiver makes of any frame on the line: a seventh equal bit after six, or a line that falls silent in the inserted region, is a coding error, the first test of R54, whatever else stands on the line; otherwise bit insertion is undone, and the further tests of R54 decide in their order. -/
def Obligations.FramesOnTheLineAreJudgedInOrder : Prop :=
  ∀ (own : Nat) (f : RawFrame) (bytes : Nat) (check : Word16) (region : List Bool),
    f.kind ≤ 15 → f.sender ≤ 15 → bytes ≤ 31 → f.payload.length = 8 * bytes →
    region = stuff true 0 (false :: (f.body ++ bitsOf check)) →
    (∀ (before : List Bool) (b : Bool) (after rest : List Bool), region = before ++ List.replicate 6 b ++ after →
      judge own (before ++ List.replicate 7 b ++ rest) = .discarded .codingError) ∧
    (∀ m, 1 ≤ m → m + 7 ≤ region.length → judge own (region.take m) = .discarded .codingError) ∧
    ∀ a b c : Bool,
      judge own (region ++ [a, b, c]) =
        if a = false ∨ b = false ∨ c = false then .discarded .endError
        else if check ≠ crc f.body then .discarded .crcError
        else if 12 < f.kind then .discarded .unassignedKind
        else if f.sender = 0 ∨ 12 < f.sender then .discarded .invalidSender
        else if lengthAllowed f.kind bytes = false then .discarded .lengthError
        else if f.sender = own then .discarded .ownNumber
        else .valid f

/-- R50, R52, R56, R65, R176. Every well-formed frame command goes out as its bits and comes back from them as the same command, with every operand at every value its layout admits; its line is at most 307 bit times long. The station presents the bits of the frame it sends at LTX, with LEN asserted for each dominant one; while it sends nothing LTX is recessive and LEN deasserted. -/
def Obligations.FrameCommandsRoundTripOverTheLine : Prop :=
  (∀ (i : Instr) (f : RawFrame) (own time : Nat),
    i.wellFormed = true → frameOf i = some f → f.sender ≠ own → (∀ k g at', i = .statusFrame k g at' → time = at') →
    judge own f.line = .valid f ∧ commandOf time f = some i ∧ f.line.length ≤ 307) ∧
  ∀ (s : State) (n : Nat),
    (s.lkc.sending = none → s.driven n = { ltx := true, len := false }) ∧
    ∀ (i : Instr) (f : RawFrame), s.sentCommand 0 = some i → frameOf i = some f →
      (∀ bit, f.line[n]? = some bit → s.driven n = { ltx := bit, len := !bit }) ∧
      (f.line.length ≤ n → s.driven n = { ltx := true, len := false })

/-- R60, R61. When the LKC takes an offer: never in HALTED; a CATCHUP or CAUGHT while the queue holds neither, any other frame while it holds fewer than 8 others; a frame taken joins at the newest end. Which event frames the station may send, by link state, paused flag and freeze; a window takes the oldest such frame. -/
def Obligations.QueueTakesOffersAndSendsTheOldest : Prop :=
  (∀ (s : State) (f : EventFrame),
      (s.takes f = true ↔ s.rsc.link ≠ .halted ∧
        (f.isCatchup = true → ∀ g ∈ s.lkc.queue, g.isCatchup = false) ∧
        (f.isCatchup = false → (s.lkc.queue.filter fun g => !g.isCatchup).length < 8)) ∧
      enqueue f s = { s with lkc := { s.lkc with queue := s.lkc.queue ++ [f] } }) ∧
  ((∀ (s : State) (f : EventFrame),
      s.maySend f = true ↔
        (s.rsc.link = .inStep ∨ s.rsc.link = .catchup) ∧
        match f with
        | .hangup _ | .caught _ => True
        | .catchup _ => s.rsc.paused = false
        | .claim _ _ => s.rsc.link = .inStep ∧ s.rsc.paused = false ∧ s.frozen = false
        | _ => s.rsc.link = .inStep ∧ s.frozen = false) ∧
    ∀ (s : State) (f : EventFrame),
      s.chosen = some f ↔
        ∃ older younger, s.lkc.queue = older ++ f :: younger ∧ s.maySend f = true ∧ ∀ g ∈ older, s.maySend g = false)

/-- R63, R138. An offer of unannounced tonnes is added in place to a DRAW frame that is not being sent, up to 4095 tonnes; without one it is a new DRAW frame at the newest end where the queue has room; otherwise it is refused whole. What is taken counts as queued, the rest stays unannounced. -/
def Obligations.DrawOffersAreCoalesced : Prop :=
  ∀ (s : State), 1 ≤ s.dre.unannounced → s.rsc.link ≠ .halted →
    (∀ t, queuedDraw s.lkc.queue = some t → t ≤ 4095 → s.sendingDraw = false →
      offerDraw s = { s with
        lkc := { s.lkc with queue := s.lkc.queue.map fun f =>
          match f with
          | .draw j old => .draw j (old + min s.dre.unannounced (4095 - t))
          | f => f }
        dre := { s.dre with
          unannounced := s.dre.unannounced - min s.dre.unannounced (4095 - t)
          queued := s.dre.queued + min s.dre.unannounced (4095 - t) } }) ∧
    (∀ t, queuedDraw s.lkc.queue = some t → s.sendingDraw = true → offerDraw s = s) ∧
    (queuedDraw s.lkc.queue = none → eventCount s.lkc.queue < 8 →
      offerDraw s = { s with
        lkc := { s.lkc with queue := s.lkc.queue ++ [.draw s.place (min s.dre.unannounced 4095)] }
        dre := { s.dre with
          unannounced := s.dre.unannounced - min s.dre.unannounced 4095
          queued := s.dre.queued + min s.dre.unannounced 4095 } }) ∧
    (queuedDraw s.lkc.queue = none → 8 ≤ eventCount s.lkc.queue → offerDraw s = s)

/-- R56, R59, R60, R64, R120, R137. The station's own event frame read back intact at an IN-STEP station: it leaves the queue, the own-failure count returns to 0, a new head frame starts with loss count 0 and STARVED ends; an own DRAW leaves no queued tonnes, an own HANGUP no own hang-up pending, an own RELEASE of a CHUTE row no release pending; a session in ENDING is IDLE with last result ENDED at the application of its closing frame. Frames of the closing kind that stood in the queue before that frame are counted off first, which is the model's reading (log 11). In a record that R31 rules out, where the station holds and waits at once, the scan may grant the engine anew. -/
def Obligations.OwnEventFrameApplied : Prop :=
  ∀ (s : State) (f : EventFrame),
    1 ≤ s.station → s.station ≤ 12 → s.rsc.link = .inStep → s.lkc.sending = some (.event f) →
    ∃ t later, exec (f.command (BitVec.ofNat 4 s.station)) s = .next t ∧
      t.lkc.sending = none ∧ t.lkc.ownFailures = 0 ∧ t.lkc.badFrames = s.lkc.badFrames ∧
      t.lkc.queue = s.lkc.queue.erase f ++ later ∧
      (s.lkc.queue.head? = some f → t.lkc.losses = 0 ∧ t.active .starved = false) ∧
      (s.lkc.queue.head? ≠ some f → t.lkc.losses = s.lkc.losses ∧ t.active .starved = s.active .starved) ∧
      (f.drawTonnes ≠ none → t.dre.queued = 0) ∧
      (∀ j, f = .hangup j → t.dre.ownHangup = false) ∧ s.sameSetting t ∧
      (f = .release .chute1 ∨ f = .release .chute2 →
        t.dre.releasePending = false ∨
          (s.dre.state = .asking ∧ ∃ r, s.record = some r ∧ r.waits s.station = true)) ∧
      ((s.tbs.closing = .lotIn ∧ ∃ level tonnes held grade, f = .lotIn level tonnes held grade) ∨
          (s.tbs.closing = .broken ∧ ∃ level passed cleared, f = .broken level passed cleared) ∨
          (s.tbs.closing = .release ∧
            ∃ row, f = .release row ∧ isLevel row = true ∧ s.ownRow = some row) ∨
          (s.tbs.closing = .withdraw ∧
            ∃ row, f = .withdraw row ∧ isLevel row = true ∧ s.ownRow = some row) →
        s.tbs.state = .ending →
        (s.tbs.ahead = 0 →
          t.tbs.state = .idle ∧ t.tbs.closing = .none ∧ t.tbs.pendingEnd = none ∧ t.tbs.lastResult = .ended) ∧
        (1 ≤ s.tbs.ahead →
          t.tbs.state = .ending ∧ t.tbs.closing = s.tbs.closing ∧ t.tbs.pendingEnd = s.tbs.pendingEnd ∧
            t.tbs.lastResult = s.tbs.lastResult ∧ t.tbs.ahead = s.tbs.ahead - 1))

/-- R58, R59, R62, R64, R77. The bits read back are compared with the bits sent up to the first mismatch: a recessive bit read dominant within the start bit and the identifier, 9 bit times with the bits inserted among them, loses arbitration, and any other mismatch is an own-frame failure. A lost arbitration stops the sending and touches no own-failure count; it counts against the head frame alone, and at 16 raises STARVED. An own-frame failure raises the own-failure count, an event frame keeps its place, an OPENING that fails at or past the OPEN mark abandons the round; at 4 TRANSMITTER halts the station. Bits that show no lost arbitration, or no failure, change nothing (log 9); at grade G2 and above a CLAIM whose sending ended so is discarded then (log 16). -/
def Obligations.FailedSendsAreCounted : Prop :=
  ((∀ (edge n : Nat) (sent read : List Bool),
      (readBackFrom edge 0 sent read = .lost n ↔
        n < edge ∧ sent[n]? = some true ∧ read[n]? = some false ∧ ∀ m, m < n → sent[m]? = read[m]?) ∧
      (readBackFrom edge 0 sent read = .failed n ↔
        (∃ a b, sent[n]? = some a ∧ read[n]? = some b ∧ a ≠ b ∧ (edge ≤ n ∨ a = false)) ∧
          ∀ m, m < n → sent[m]? = read[m]?)) ∧
    (∀ f : RawFrame, f.kind ≤ 12 → 1 ≤ f.sender → f.sender ≤ 12 →
      f.arbitrationPart = if (f.kind = 0 ∧ f.sender ≤ 7) ∨ (f.kind = 8 ∧ f.sender = 1) then 10 else 9) ∧
    ∀ (s : State) (read : List Bool),
      (s.lkc.sending = none → s.readBack read = .agrees) ∧
      ∀ (i : Instr) (f : RawFrame), s.sentCommand 0 = some i → frameOf i = some f →
        s.readBack read = readBackFrom f.arbitrationPart 0 f.line read) ∧
  (∀ (s : State) (read : List Bool),
      ∃ t, exec (.arbitrationLoss read) s = .next t ∧
        ((∀ n, s.readBack read ≠ .lost n) → s.settledFrom t) ∧
        ∀ n, s.readBack read = .lost n →
          t.lkc.sending = none ∧ t.lkc.ownFailures = s.lkc.ownFailures ∧
          (2 ≤ s.grade → t.lkc.queue = s.lkc.queue.filter fun f => !f.isClaim) ∧
          (s.grade < 2 →
            (∀ f, s.lkc.sending = some (.event f) → s.lkc.queue.head? = some f → s.lkc.losses < 15 →
              State.settledFrom { s with lkc := { s.lkc with sending := none, losses := s.lkc.losses + 1 } } t) ∧
            (∀ f, s.lkc.sending = some (.event f) → s.lkc.queue.head? = some f → 15 ≤ s.lkc.losses →
              t.active .starved = true ∧ t.lkc = { s.lkc with sending := none, losses := 16 } ∧
                s.sameConditions t []) ∧
            (∀ x, s.lkc.sending = some x → (∀ f, x = .event f → s.lkc.queue.head? ≠ some f) →
              State.settledFrom { s with lkc := { s.lkc with sending := none } } t))) ∧
  ∀ (s : State) (read : List Bool),
      ∃ t, exec (.ownFrameFailure read) s = .next t ∧
        ((∀ n, s.readBack read ≠ .failed n) → s.settledFrom t) ∧
        ∀ (n : Nat) (x : Sending), s.readBack read = .failed n → s.lkc.sending = some x →
          t.lkc.sending = none ∧ t.lkc.ownFailures = min (s.lkc.ownFailures + 1) 4 ∧ t.record = s.record ∧
          (2 ≤ s.grade → t.lkc.queue = s.lkc.queue.filter fun f => !f.isClaim) ∧
          (3 ≤ s.lkc.ownFailures → s.grade < 3 → t.active .transmitter = true ∧ t.rsc.link = .halted) ∧
          (s.grade < 2 → s.lkc.ownFailures < 3 →
            ((∀ a b c d, x = .opening a b c d → s.pastOpen s.rsc.roundTime = false) →
              State.settledFrom
                { s with lkc := { s.lkc with sending := none, ownFailures := s.lkc.ownFailures + 1 } } t) ∧
            ((∃ a b c d, x = .opening a b c d) → s.pastOpen s.rsc.roundTime = true →
              State.settledFrom
                { s with
                  lkc := { s.lkc with
                    sending := none, ownFailures := s.lkc.ownFailures + 1, restartAtReturn := false }
                  rsc := { s.rsc with abandoned := true, span := .unopened, roundTime := 0 } } t))

/-- R54, R55, R77, R79. The command gives the bits of the frame and the round time of its start bit (log 11). A discarded frame is counted, from 16 on with NOISE; from the OPEN mark of an IN-ROUND span on it abandons the round, in an UNOPENED span it restarts round time; otherwise it touches nothing. The receiver that returns to waiting is idle again, and round time restarts where a round was abandoned over the frame it discarded; one that has discarded none changes nothing (log 9). -/
def Obligations.DiscardedFramesAreCounted : Prop :=
  (∀ (s : State) (bits : List Bool) (start : Nat) (reason : DiscardReason),
      s.rsc.link ≠ .offline → bits.head? = some false → judge s.station bits = .discarded reason →
      ∃ t counted, exec (.frameDiscard bits start) s = .next t ∧
        counted = { s with
          lkc := { s.lkc with badFrames := min (s.lkc.badFrames + 1) 255, discarding := true }
          conditions := if 15 ≤ s.lkc.badFrames then (setCondition .noise s).conditions else s.conditions
          lpt := if 15 ≤ s.lkc.badFrames then (setCondition .noise s).lpt else s.lpt } ∧
        (s.rsc.span = .unopened →
          State.settledFrom { counted with rsc := { s.rsc with roundTime := 0 } } t) ∧
        (s.rsc.span = .inRound → s.pastOpen start = true →
          State.settledFrom
            { counted with
              rsc := { s.rsc with abandoned := true, span := .unopened }
              lkc := { counted.lkc with restartAtReturn := true } } t) ∧
        (s.rsc.span = .inRound → s.pastOpen start = false → State.settledFrom counted t)) ∧
  (∀ s : State,
      ∃ t, exec .receiverReturnsToWaiting s = .next t ∧
        (s.lkc.discarding = false → s.settledFrom t) ∧
        (s.lkc.discarding = true →
          State.settledFrom
            { s with
              lkc := { s.lkc with discarding := false, restartAtReturn := false }
              rsc := { s.rsc with roundTime := if s.lkc.restartAtReturn then 0 else s.rsc.roundTime } } t))

/-! ### The grade -/

/-- R62, R143, R156, R159. The grade is the highest grade among the active conditions, and every change of the active set sets GRADE. A condition that brings the grade to G2 discards every CLAIM in the queue but the one on the line, with REFUSED, and the other frames keep their order; one other than WATCH ends the engine's orders with FAULT and leaves it FAULTED, a HUNG engine staying HUNG. -/
def Obligations.GradeAndWhatItsRiseBrings : Prop :=
  ((∀ s : State, s.grade ≤ 3 ∧
      ∀ g, 1 ≤ g → (g ≤ s.grade ↔ ∃ c : Condition, s.active c = true ∧ g ≤ conditionGrade c)) ∧
    ∀ (s : State) (c : Condition),
      (setCondition c s).active c = true ∧ (clearCondition c s).active c = false ∧
      (∀ d, d ≠ c → (setCondition c s).active d = s.active d ∧ (clearCondition c s).active d = s.active d) ∧
      (s.active c = true → setCondition c s = s ∧ (clearCondition c s).notice .grade = true) ∧
      (s.active c = false → (setCondition c s).notice .grade = true ∧ clearCondition c s = s)) ∧
  (∀ (s : State) (c : Condition), s.grade < 2 → conditionGrade c = 2 →
      (raiseCondition c s).active c = true ∧ (raiseCondition c s).notice .grade = true ∧
      (raiseCondition c s).rsc = s.rsc ∧ (raiseCondition c s).record = s.record ∧
      (∃ later, (raiseCondition c s).lkc.queue.filter (fun f => !f.isClaim) =
        (s.lkc.queue.filter fun f => !f.isClaim) ++ later) ∧
      (∀ f ∈ (raiseCondition c s).lkc.queue, f.isClaim = true → s.lkc.sending = some (.event f)) ∧
      ((∃ f ∈ s.lkc.queue, f.isClaim = true ∧ s.lkc.sending ≠ some (.event f)) →
        (raiseCondition c s).notice .refused = true)) ∧
  (∀ (s : State) (c : Condition), conditionGrade c = 2 → c ≠ .watch → s.grade < 2 → s.role = .chute →
      s.rsc.link ≠ .halted →
      (s.dre.state = .hung → (raiseCondition c s).dre.state = .hung) ∧
      (s.dre.state ≠ .hung →
        (raiseCondition c s).dre.state = .faulted ∧
        (s.dre.state ≠ .faulted → s.dre.current ≠ none →
          (raiseCondition c s).dre.current = none ∧ (raiseCondition c s).dre.lastOutcome = .fault ∧
            (raiseCondition c s).notice .orderDone = true ∨ s.dre.state = .idle) ∧
        (s.dre.state = .running ∨ s.dre.state = .dwelling ∨ s.dre.state = .suspended →
          (raiseCondition c s).dre.releasePending = true ∧
            (raiseCondition c s).dre.gate ≠ .opening ∧ (raiseCondition c s).dre.gate ≠ .isOpen)))

/-! ### Rounds, membership and the hold -/

/-- R55, R67, R75, R85, R86. A valid OPENING under the station's own config digest with a round number below 24 is a round start in every link state but OFFLINE: counters and paused flag from the frame, flags cleared, WATCH and LINK-SILENT ended, LISTEN left for JOINING, a JOINING station counted, and a sequence that changes closed. That the slots heard since the last round start taken become those of the round just ended (log 13), that a new bid comes with it (log 15) and that the first round start may close a sequence as well (log 31) are the model's readings. -/
def Obligations.OpeningFrameStartsARound : Prop :=
  ∀ (s : State) (k : BitVec 4) (round sequence : Byte) (paused : Bool),
    s.delivers (.openingFrame k round sequence paused s.ownDigest) k 0 → round.toNat < 24 →
    ∃ t, exec (.openingFrame k round sequence paused s.ownDigest) s = .next t ∧
      t.rsc = { s.rsc with
        link := t.rsc.link, joiningCount := t.rsc.joiningCount, roundTime := 0, roundNumber := round.toNat
        sequence := sequence.toNat, paused := paused, span := .inRound, abandoned := false, holdSeen := false
        silentSpans := 0, walkPos := 0, checkPos := 0, bidDone := false
        slotFrames := List.replicate 12 none, heard := List.replicate 12 none, lastHeard := s.rsc.heard } ∧
      t.settings = s.settings ∧ t.stl = s.stl ∧ t.pending = s.pending ∧ t.lpt.configDigest = s.lpt.configDigest ∧
      t.fca.channels.map Channel.lessDrive = s.fca.channels.map Channel.lessDrive ∧
      t.active .watch = false ∧ t.active .linkSilent = false ∧
      (s.rsc.paused ≠ paused → t.notice .pause = true) ∧
      (s.rsc.link = .listen → t.rsc.link = .joining ∧ t.rsc.joiningCount = 0) ∧
      (s.rsc.link = .joining → s.rsc.joiningCount = 0 → t.rsc.link = .joining ∧ t.rsc.joiningCount = 1) ∧
      (s.rsc.link = .halted → t.rsc.link = .halted ∧ t.record = s.record ∧ t.agu.digest = s.agu.digest) ∧
      (s.rsc.sequence ≠ sequence.toNat →
        t.lkc.badFrames = 0 ∧ t.active .noise = (s.active .noise && decide (16 ≤ s.lkc.badFrames))) ∧
      (s.rsc.sequence = sequence.toNat → t.lkc.badFrames = s.lkc.badFrames ∧ t.active .noise = s.active .noise) ∧
      t.fca.sightingCount = min (s.fca.sightingCount + 1) 255

/-- R75, R90, R91, R161. An OPENING under another config digest raises CONFIG-MISMATCH and halts the station, its record kept; one with a round number of 24 or more changes no round state. -/
def Obligations.OpeningFrameThatStartsNoRound : Prop :=
  ∀ (s : State) (k : BitVec 4) (round sequence : Byte) (paused : Bool) (config : Word16),
    s.delivers (.openingFrame k round sequence paused config) k 0 → config ≠ s.ownDigest ∨ 24 ≤ round.toNat →
    ∃ t, exec (.openingFrame k round sequence paused config) s = .next t ∧ t.record = s.record ∧ s.sameSetting t ∧
      (config ≠ s.ownDigest → s.grade < 3 →
        t.active .configMismatch = true ∧ t.rsc.link = .halted ∧ t.lkc.sending = none ∧ t.tbs.state = .idle ∧
          (s.role = .chute → t.dre.state = .faulted ∧ t.dre.current = none) ∧
          t.lpt.access = .idle ∧ (s.rsc.link ≠ .halted → t.notice .state = true) ∧ t.notice .grade = true ∧ t.dre.gate = s.dre.gate ∧
          t.tbs.output = false ∧ t.dre.openValve = false ∧ t.dre.closeValve = false ∧
          (∀ ch ∈ t.fca.channels, ch.modeIs .lineOut = true → ch.commanded = false) ∧
          t.agu = s.agu ∧
          t.rsc = { s.rsc with link := .halted, joiningCount := 0, roundTime := t.rsc.roundTime }) ∧
      (config = s.ownDigest → 24 ≤ round.toNat →
        t.rsc = { s.rsc with roundTime := t.rsc.roundTime } ∧ t.agu = s.agu ∧ s.sameConditions t [])

/-- R45, R70, R74, R83, R96, R105, R106. What a station puts into its STATUS frame and its OPENING frame; its STATUS carries a piece exactly at the provider of a freeze that has passed a round start, the pieces in turn, with the header of the freeze and the content of its record. -/
def Obligations.OwnFramesReportTheStation : Prop :=
  ∀ s : State,
    (s.rsc.link ≠ .joining → s.record ≠ none → s.statusFields.digest = s.agu.digest) ∧
    (s.rsc.link = .joining ∨ s.record = none → s.statusFields.digest = 0 ∧ s.statusFields.holding = 0) ∧
    s.statusFields.link.toNat = linkCode s.rsc.link ∧ s.statusFields.grade.toNat = s.grade ∧
    s.statusFields.hold = (s.holdLine || s.lpt.holdRequest) ∧ s.statusFields.frozen = s.frozen ∧
    s.statusFields.role.toNat = s.roleCode ∧ s.statusFields.place.toNat = s.place ∧
    s.statusFields.config = s.ownDigest ∧ s.statusFields.present = s.presentSet ∧
    (∀ p, s.statusFields.piece = some p ↔
      ∃ r run snap index, s.record = some r ∧ s.agu.tracker.run = some run ∧ s.agu.snapshot = some snap ∧
        s.rsc.link = .inStep ∧ run.provider = s.station ∧ run.remaining < s.settings.freezeLimit.toNat ∧
        index = (s.settings.freezeLimit.toNat - run.remaining - 1) % snap.totalPieces ∧
        p =
          { image := BitVec.ofNat 8 s.agu.tracker.imageId, index := BitVec.ofNat 8 index
            receivers := run.receivers, remaining := BitVec.ofNat 8 run.remaining
            content := pieceContent r snap index }) ∧
    (s.rsc.link ≠ .joining → s.record ≠ none → ∀ row,
      (s.statusFields.holding.getLsbD (rowCode row - 1) = true ↔
        (isLevel row = true ∧ s.ownRow = some row ∧
          (s.tbs.state = .granted ∨ (s.tbs.state = .ending ∧ (s.tbs.closing = .lotIn ∨ s.tbs.closing = .broken)))) ∨
        ((row = .chute1 ∨ row = .chute2) ∧ s.ownRow = some row ∧
          (s.dre.state = .running ∨ s.dre.state = .dwelling ∨ s.dre.state = .suspended ∨
            s.dre.releasePending = true ∨ (s.dre.state = .hung ∧ s.dre.ownHangup = true))) ∨
        (row = .access ∧ s.lpt.access = .held))) ∧
    s.openingBid =
      .opening (if s.rsc.roundNumber = 23 then 0 else s.rsc.roundNumber + 1)
        (if s.rsc.roundNumber = 23 then (s.rsc.sequence + 1) % 256 else s.rsc.sequence)
        (s.rsc.holdSeen || s.holdLine || s.lpt.holdRequest) s.ownDigest

/-- R57, R61, R64, R70, R72, R73. At its STATUS mark, at the mark of an active window and at its bid mark a station that may send starts its frame on a quiet line; on a busy line the chance passes, and in a window counts against the head frame. That round time stands at the mark, that a receiver which has not returned to waiting makes the line busy, and that a sending of the station's own passes the mark without a loss are the model's readings (log 22). -/
def Obligations.PlanMarksStartSendings : Prop :=
  ∀ (s : State) (busy : Bool),
    (∀ i e, s.settings.slotOf s.station = some (i, e) → s.rsc.span = .inRound →
      s.rsc.link = .joining ∨ s.rsc.link = .catchup ∨ s.rsc.link = .inStep →
      s.rsc.walkPos ≤ i → s.rsc.roundTime ≤ e.mark →
      ∃ t, exec (.statusSlot busy) s = .next t ∧
        State.settledFrom
          { s with
            rsc := { s.rsc with roundTime := e.mark, walkPos := i + 1 }
            lkc := { s.lkc with sending :=
              (if busy = true ∨ s.lkc.discarding = true ∨ s.lkc.sending ≠ none then s.lkc.sending
               else some (.status s.statusFields)) } } t) ∧
    (∀ i e, s.settings.walk[i]? = some e → e.kind = some .window → s.rsc.roundNumber % e.period = e.phase →
      s.rsc.span = .inRound → s.rsc.link ≠ .offline → s.rsc.walkPos ≤ i → s.rsc.roundTime ≤ e.mark →
      ∃ t u, exec (.window i busy) s = .next t ∧
        u = { s with rsc := { s.rsc with roundTime := e.mark, walkPos := i + 1 } } ∧
        (s.chosen = none ∨ s.lkc.sending ≠ none → u.settledFrom t) ∧
        (∀ f, s.chosen = some f → s.lkc.sending = none →
          (busy = false → s.lkc.discarding = false →
            State.settledFrom { u with lkc := { s.lkc with sending := some (.event f) } } t) ∧
          (busy = true ∨ s.lkc.discarding = true →
            (s.lkc.queue.head? ≠ some f → u.settledFrom t) ∧
            (s.lkc.queue.head? = some f → s.lkc.losses < 15 →
              State.settledFrom { u with lkc := { s.lkc with losses := s.lkc.losses + 1 } } t) ∧
            (s.lkc.queue.head? = some f → 15 ≤ s.lkc.losses → t.active .starved = true ∧ t.lkc.losses = 16)))) ∧
    (∀ m, s.settings.markOf .opening = some m → 1 ≤ s.rank → s.rank ≤ 4 →
      s.rsc.link ≠ .offline → s.rsc.link ≠ .halted → s.rsc.abandoned = false → s.rsc.bidDone = false →
      s.rsc.roundTime ≤ m + (s.rank - 1) * 40 →
      ∃ t, exec (.openingBid busy) s = .next t ∧
        State.settledFrom
          { s with
            rsc := { s.rsc with roundTime := m + (s.rank - 1) * 40, bidDone := true }
            lkc := { s.lkc with sending :=
              (if busy = true ∨ s.lkc.discarding = true ∨ s.lkc.sending ≠ none then s.lkc.sending
               else some s.openingBid) } } t)

/-- R71, R92, R93. The check of a peer's slot: heard, the miss count is 0; missed, it rises to at most 7; a peer that crosses the drop threshold joins or leaves the present set with PEERS, and one that leaves raises PEER-LOSS. Round time then stands at the mark plus 40, and the check acts where that has not passed (log 22). -/
def Obligations.StatusCheckCountsTheSlot : Prop :=
  ∀ (s : State) (owner : BitVec 4) (i : Nat) (e : PlanEntry),
    s.settings.slotOf owner.toNat = some (i, e) → owner.toNat ≠ s.station → 1 ≤ owner.toNat → owner.toNat ≤ 12 →
    s.shaped → s.rsc.span = .inRound →
    s.rsc.link = .joining ∨ s.rsc.link = .catchup ∨ s.rsc.link = .inStep ∨ s.rsc.link = .halted →
    s.rsc.checkPos ≤ i → s.rsc.roundTime ≤ e.mark + 40 →
    ∃ t, exec (.statusCheck owner) s = .next t ∧
      t.rsc = { s.rsc with
        roundTime := e.mark + 40, checkPos := i + 1
        miss := s.rsc.miss.set (owner.toNat - 1)
          (if (s.rsc.slotFrames.getD (owner.toNat - 1) none).isSome = true then 0
           else min (s.missOf owner.toNat + 1) 7)
        heard := s.rsc.heard.set (owner.toNat - 1) (s.rsc.slotFrames.getD (owner.toNat - 1) none) } ∧
      t.record = s.record ∧ s.sameSetting t ∧ s.sameConditions t [.peerLoss] ∧ t.agu = s.agu ∧ t.lkc = s.lkc ∧
      t.tbs.state = s.tbs.state ∧ t.dre.current = s.dre.current ∧
      (∀ k, k ≠ owner.toNat → 1 ≤ k → k ≤ 12 → t.isPresent k = s.isPresent k) ∧
      (t.isPresent owner.toNat = true ↔
        t.missOf owner.toNat < s.settings.dropThreshold.toNat ∧ t.missOf owner.toNat < 7) ∧
      (t.isPresent owner.toNat ≠ s.isPresent owner.toNat → t.notice .peers = true) ∧
      t.active .peerLoss =
        (s.active .peerLoss || (s.isPresent owner.toNat && !t.isPresent owner.toNat))

/-- R67, R78, R79, R85, R86. The watch raises WATCH and opens an UNOPENED span at round time 0, and takes a JOINING station back to LISTEN; the end of a LISTEN span counts it, with LINK-SILENT at 16. Either acts where round time has not passed its moment (log 22), and a new bid comes with it (log 15). Where no command waits a mark passes (log 7): round time stands in OFFLINE, rises by 1 elsewhere and never passes 4095, and from a restart at that mark it rises to 1. -/
def Obligations.WatchAndListenSpans : Prop :=
  (∀ (s : State) (m : Nat), s.settings.markOf .watch = some m →
    (s.rsc.roundTime ≤ m →
      s.rsc.link = .joining ∨ s.rsc.link = .catchup ∨ s.rsc.link = .inStep ∨ s.rsc.link = .halted →
      ∃ t, exec .watchExpiry s = .next t ∧ t.active .watch = true ∧ s.sameConditions t [.watch] ∧
        t.record = s.record ∧ s.sameSetting t ∧ t.agu = s.agu ∧
        t.rsc =
          if s.rsc.link = .joining then
            { s.rsc with
              link := .listen, roundTime := 0, span := .unopened, abandoned := false, bidDone := false
              joiningCount := 0, silentSpans := 0 }
          else { s.rsc with roundTime := 0, span := .unopened, abandoned := false, bidDone := false }) ∧
    (s.rsc.roundTime ≤ m + 40 → s.rsc.link = .listen →
      ∃ t, exec .listenSpanEnd s = .next t ∧ s.sameConditions t [.linkSilent] ∧
        t.active .linkSilent = (s.active .linkSilent || decide (15 ≤ s.rsc.silentSpans)) ∧
        t.record = s.record ∧ s.sameSetting t ∧ t.agu = s.agu ∧
        t.rsc = { s.rsc with roundTime := 0, silentSpans := min (s.rsc.silentSpans + 1) 16, bidDone := false })) ∧
  ∀ (s : State) (ends : Bool), s.pending = [] →
    ends = (s.settings.markOf .watch).any
      (fun m => decide (s.rsc.roundTime = if s.rsc.link = .listen then m + 40 else m)) →
    ∃ t, step s = .next t ∧ t.record = s.record ∧
      t.rsc.roundTime =
        if s.rsc.link = .offline then s.rsc.roundTime
        else if ends = true then 1
        else min (s.rsc.roundTime + 1) 4095

/-- R68, R69, R80, R81. A plan that passes its eleven checks: one OPEN and one WATCH mark with 200 marks between them and the watch at least 40 below the highest round time; every slot and window ends before the OPEN mark; the station has its own slot and no owner has two; two entries before the watch that are active in one round stand at least 40 marks apart. -/
def Obligations.PassingPlanKeepsItsProperties : Prop :=
  ∀ (c : Settings) (station : Nat), (∀ b ∈ planChecks c station, b = true) →
    ∃ o m, c.markOf .opening = some o ∧ c.markOf .watch = some m ∧ o + 200 ≤ m ∧ m + 40 ≤ 4095 ∧
      (∀ e ∈ c.walk, e.kind = some .status ∨ e.kind = some .window → e.mark + 40 ≤ o) ∧
      (c.slotOf station).isSome = true ∧ (∃ e ∈ c.walk, e.kind = some .window) ∧
      (∀ (i j : Nat) (a b : PlanEntry), i < j → c.walk[i]? = some a → c.walk[j]? = some b → a.kind ≠ some .finish → b.kind ≠ some .finish →
        (∃ r, r < 24 ∧ a.active r = true ∧ b.active r = true) → a.mark + 40 ≤ b.mark) ∧
      (∀ (i j : Nat) (a b : PlanEntry), i < j → c.walk[i]? = some a → c.walk[j]? = some b → a.kind = some .status →
        b.kind = some .status → a.owner ≠ b.owner)

/-- R71, R86, R87, R107. The joining decision of the round start that brings the joining count to 2 (the part row of log 8), on the slots heard in the round which that round start ends: a qualifying peer is asked, the lowest-numbered one, from CATCHUP; without one the lowest-numbered present station founds; any other waits. -/
def Obligations.JoiningDecisionAsksFoundsOrWaits : Prop :=
  ∀ (s : State) (peers : List Compared), s.rsc.link = .joining → 1 ≤ s.rsc.joiningCount →
    peers = State.qualifyingPeers { s with rsc := { s.rsc with lastHeard := s.rsc.heard } } →
    ∃ t, exec .joiningDecision s = .next t ∧ s.sameSetting t ∧ s.sameConditions t [] ∧
      (∀ peer others, peers = peer :: others →
        t.rsc.link = .catchup ∧ t.agu.receiver = .asking ∧ t.record = s.record ∧
          (∀ other ∈ others, peer.station < other.station) ∧
          ((∀ f ∈ s.lkc.queue, f.isCatchup = false) →
            t.lkc.queue = s.lkc.queue ++ [.catchup peer.station]) ∧ t.notice .state = true) ∧
      (peers = [] → s.lowestPresent = true →
        t.rsc.link = .inStep ∧ t.record = some (Record.found s.settings) ∧
          t.agu.digest = (Record.found s.settings).digest ∧ t.notice .state = true ∧ t.notice .column = true) ∧
      (peers = [] → s.lowestPresent = false → t.record = s.record ∧
        t.rsc = { s.rsc with
          joiningCount := 2, slotFrames := List.replicate 12 none, heard := List.replicate 12 none
          lastHeard := s.rsc.heard }) ∧
      (∀ k, (∃ peer ∈ peers, peer.station = k) ↔
        1 ≤ k ∧ k ≤ 12 ∧ k ≠ s.station ∧ s.isPresent k = true ∧
          ∃ report, s.rsc.heard.getD (k - 1) none = some report ∧ report.link = 4 ∧ report.config = s.ownDigest)

/-! ### Agreement and catch-up -/

/-- R53, R99, R173, R176. The check register starts at all ones and takes bits by the generator; the check of a frame followed by its check bits leaves it at zero. Fields are packed end to end, each most significant bit first. The record digest is the check over the column's fields, the lots, the nine rows with holder, purpose and reservation, and the waiting entries, in that layout; it covers neither leases nor ages. The config digest is the check over the shared items in theirs, chokes above L as 0. -/
def Obligations.ChecksAndDigests : Prop :=
  (crc [] = 0xFFFF#16 ∧ (∀ bits, crc (bits ++ bitsOf (crc bits)) = 0) ∧
    ∀ bits b, crc (bits ++ [b]) =
      if (crc bits).msb = b then crc bits <<< 1 else (crc bits <<< 1) ^^^ 0x1021#16) ∧
  ((∀ w v i, (fieldBits w v).length = w ∧ (i < w → (fieldBits w v)[i]? = some (v.testBit (w - 1 - i)))) ∧
    packFields [] = [] ∧ ∀ w v fields, packFields ((w, v) :: fields) = fieldBits w v ++ packFields fields) ∧
  (∀ r : Record, r.digest = crc (packFields (
    [(8, r.column.lots.length), (1, r.column.hung.isSome.toNat), (1, r.column.unverified.toNat),
     (1, r.column.hung.isSome.toNat), (1, (r.column.hung.map fun h => h.chute - 1).getD 0), (4, r.queue.length),
     (16, r.column.nextLot), (16, r.column.overdraw), (16, (r.column.hung.map HangUp.stamp).getD 0),
     (24, (r.column.hung.map HangUp.total).getD 0)] ++
    (r.column.lots.flatMap fun l =>
      [(16, l.number), (2, kindCode l.kind), (3, l.source), (3, l.gradeClass), (16, l.tonnes),
       (1, l.held.isSome.toNat), (3, 0), (12, l.held.getD 0)]) ++
    ([Row.level1, .level2, .level3, .level4, .level5, .level6, .chute1, .chute2, .access].flatMap fun row =>
      match r.table.get row with
      | none => [(24, 0)]
      | some g => [(4, g.holder), (4, purposeCode g.purpose), (16, g.reservation)]) ++
    r.queue.flatMap fun e =>
      [(4, e.station), (4, rowCode e.row), (8, purposeCode e.purpose), (16, e.reservation)]))) ∧
  (∀ (r r' : Record), r.column = r'.column →
      (∀ row, (r.table.get row).map (fun g => { g with lease := 0 }) =
        (r'.table.get row).map fun g => { g with lease := 0 }) →
      (r.queue.map fun e => { e with age := 0 }) = (r'.queue.map fun e => { e with age := 0 }) →
      r.digest = r'.digest) ∧
  ∀ c : Settings, c.digest = crc (packFields (
    [(8, c.planLength.toNat)] ++ ((c.plan.take c.planLength.toNat).map fun e => (32, (e.getD 0).toNat)) ++
    [(8, c.levels.toNat)] ++
    ([1, 2, 3, 4, 5, 6].map fun k => (16, if k ≤ c.levels.toNat then c.choke k else 0)) ++
    [(16, c.cushionTonnes), (16, c.tipReservation.toNat), (8, c.leaseLength.toNat), (8, c.waitLimit.toNat),
     (8, c.dropThreshold.toNat), (8, c.freezeLimit.toNat), (16, c.tolerance.toNat), (16, c.founding.toNat)]))

/-- R100, R101. The majority among compared stations is the digest that more than half carry, else that of the lowest-numbered, and its lowest-numbered member is the first that carries it; compared are, by rising number, the station itself and the present peers heard IN-STEP under its own config digest. At a round start an IN-STEP station that was IN-STEP at the one before and whose digest of the round just ended stands outside the majority raises DISAGREE, goes to CATCHUP with its record, and asks the lowest-numbered member. That the peers' digests are those heard since the last round start taken is the model's reading (log 13). -/
def Obligations.RoundStartComparesDigests : Prop :=
  (∀ (cs : List Compared) (d : Word16), cs.length < 2 * (cs.filter fun c => c.digest = d).length →
    majorityDigest cs = some d) ∧
  (∀ (c : Compared) (cs : List Compared),
    (∀ d, 2 * ((c :: cs).filter fun x => x.digest = d).length ≤ (c :: cs).length) →
    majorityDigest (c :: cs) = some c.digest) ∧
  (∀ (older younger : List Compared) (c : Compared), majorityDigest (older ++ c :: younger) = some c.digest →
    (∀ o ∈ older, o.digest ≠ c.digest) → majorityLowest (older ++ c :: younger) = some c.station) ∧
  (∀ (s : State) (own : Word16),
    (s.compared own).Pairwise (fun a b => a.station < b.station) ∧
    ∀ c : Compared, c ∈ s.compared own ↔ 1 ≤ c.station ∧ c.station ≤ 12 ∧
      (if c.station = s.station then c.digest = own
       else s.isPresent c.station = true ∧
        ∃ report, s.rsc.lastHeard.getD (c.station - 1) none = some report ∧ report.link = 4 ∧
          report.config = s.ownDigest ∧ report.digest = c.digest)) ∧
  ∀ (s : State) (k : BitVec 4) (round sequence : Byte) (paused : Bool) (cs : List Compared) (d : Word16) (lowest : Nat),
    s.delivers (.openingFrame k round sequence paused s.ownDigest) k 0 → round.toNat < 24 →
    s.rsc.link = .inStep → s.agu.inStepBefore = true → 1 ≤ s.station → s.station ≤ 12 →
    cs = State.compared { s with rsc := { s.rsc with lastHeard := s.rsc.heard } } s.agu.digest →
    majorityDigest cs = some d → majorityLowest cs = some lowest →
    ∃ t, exec (.openingFrame k round sequence paused s.ownDigest) s = .next t ∧
      t.agu.majority = d ∧ t.agu.compared = cs.length ∧
      (d = s.agu.digest → t.rsc.link = .inStep ∧ t.active .disagree = s.active .disagree ∧
        t.agu.receiver = s.agu.receiver) ∧
      (d ≠ s.agu.digest →
        t.rsc.link = .catchup ∧ t.active .disagree = true ∧ t.agu.receiver = .asking ∧
          t.agu.tracker.run = none ∧ t.agu.view = s.agu.tracker.step ∧ (t.record.isSome = s.record.isSome) ∧
          (EventFrame.catchup lowest ∈ t.lkc.queue ∨ t.agu.keptCatchup = some lowest))

/-- R102, R103, R107. A CATCHUP that names another station 1–12 begins a freeze at the tracker of an IN-STEP station or the view of a CATCHUP station, or joins its sender to the receivers; the named station takes its snapshot; the station's own CATCHUP starts collecting. The record stays. -/
def Obligations.CatchupFrameBeginsOrJoinsAFreeze : Prop :=
  ∀ (s : State) (k : BitVec 4) (provider : Byte),
    s.delivers (.catchupFrame k provider) k 0 →
    ∃ t, exec (.catchupFrame k provider) s = .next t ∧ t.record = s.record ∧ s.besideRecord t ∧
      (k.toNat ≠ s.station → s.keepsLine t) ∧
      s.sameConditions t [] ∧
      (provider = 0 ∨ 12 < provider.toNat ∨ provider.toNat = k.toNat → t.agu = s.agu) ∧
      (1 ≤ provider.toNat → provider.toNat ≤ 12 → provider.toNat ≠ k.toNat →
        (s.rsc.link = .inStep → s.agu.tracker.run = none →
          t.agu = { s.agu with
            tracker :=
              { run := some
                  { provider := provider.toNat, receivers := withStation 0 k.toNat
                    remaining := s.settings.freezeLimit.toNat }
                imageId := s.rsc.sequence }
            snapshot :=
              (if provider.toNat = s.station then
                match s.record with
                | none => s.agu.snapshot
                | some r =>
                  some { digest := r.digest, totalPieces := totalPieces r.column.lots.length r.queue.length }
              else s.agu.snapshot) } ∧ t.notice .freeze = true) ∧
        (∀ run, s.rsc.link = .inStep → s.agu.tracker.run = some run →
          t.agu = { s.agu with tracker := { s.agu.tracker with
            run := some { run with receivers := withStation run.receivers k.toNat } } }) ∧
        (s.rsc.link = .catchup →
          t.agu.view = s.agu.view.catchup k.toNat provider.toNat s.settings.freezeLimit.toNat s.rsc.sequence ∧
          t.agu.tracker = s.agu.tracker ∧
          (k.toNat = s.station → s.agu.receiver = .asking →
            t.agu.receiver = .collecting ∧ t.agu.store = [] ∧ t.notice .catchup = true) ∧
          (k.toNat ≠ s.station ∨ s.agu.receiver ≠ .asking →
            t.agu.receiver = s.agu.receiver ∧ t.agu.store = s.agu.store)))

/-- R104, R107, R110, R111, R123, R136, R140, R141, R171. A CAUGHT takes its sender out of the receivers, and the last one ends the freeze; the station's own CAUGHT(INSTALLED) while INSTALLING brings it IN-STEP with the view as its tracker and clears DISAGREE and CATCHUP-FAILED; its own CAUGHT(ABANDONED) while ABANDONING, or a view's freeze that ends under an attempt, counts a failure. On the return to IN-STEP the sequencer, the access and the engine read the installed record: a row in use that it does not show held is lost, one that is asked for is granted where it shows it held, waits on while the CLAIM is queued or the entry waits, and is refused otherwise; an IDLE engine keeps its release pending only with the row; a HUNG column hangs the engine up, and under a NORMAL one a HUNG engine without a HANGUP of its own pending goes to IDLE below G2 and to FAULTED otherwise, which it leaves as always. A station without a row of its own reads for its access alone. -/
def Obligations.CaughtFrameEndsFreezeOrAttempt : Prop :=
  (∀ (s : State) (k : BitVec 4) (code : Byte) (o : CaughtOutcome),
    s.delivers (.caughtFrame k code) k 0 → caughtOfCode code.toNat = some o →
    ∃ t, exec (.caughtFrame k code) s = .next t ∧ t.record = s.record ∧ s.sameSetting t ∧
      (s.rsc.link = .inStep → t.agu.tracker = s.agu.tracker.caught k.toNat ∧ t.rsc.link = .inStep ∧
        t.agu.receiver = s.agu.receiver ∧ s.sameConditions t []) ∧
      (s.rsc.link = .catchup → k.toNat = s.station → o = .installed → s.agu.receiver = .installing →
        t.rsc.link = .inStep ∧ t.agu.tracker = s.agu.view.caught s.station ∧ t.agu.view.run = none ∧
          t.agu.receiver = .idle ∧ t.agu.failures = 0 ∧ t.active .disagree = false ∧
          t.active .catchupFailed = false ∧ t.notice .state = true) ∧
      (s.rsc.link = .catchup → ¬(k.toNat = s.station ∧ o = .installed ∧ s.agu.receiver = .installing) →
        t.rsc.link = .catchup ∧ t.agu.view = s.agu.view.caught k.toNat ∧
        (((k.toNat = s.station ∧ o = .abandoned ∧ s.agu.receiver = .abandoning) ∨
            (s.attempting = true ∧ s.agu.view.run ≠ none ∧ (s.agu.view.caught k.toNat).run = none)) →
          t.agu.receiver = .backoff ∧ t.agu.failures = min (s.agu.failures + 1) 15 ∧ t.agu.store = [] ∧
            (2 ≤ s.agu.failures → t.active .catchupFailed = true)) ∧
        (¬((k.toNat = s.station ∧ o = .abandoned ∧ s.agu.receiver = .abandoning) ∨
            (s.attempting = true ∧ s.agu.view.run ≠ none ∧ (s.agu.view.caught k.toNat).run = none)) →
          t.agu.receiver = s.agu.receiver ∧ t.agu.failures = s.agu.failures ∧ t.agu.store = s.agu.store))) ∧
  ∀ (s : State) (k : BitVec 4) (code : Byte) (r : Record),
    s.delivers (.caughtFrame k code) k 0 → caughtOfCode code.toNat = some .installed → s.rsc.link = .catchup →
    k.toNat = s.station → s.agu.receiver = .installing → s.record = some r →
    ∃ t, exec (.caughtFrame k code) s = .next t ∧
      (s.tbs.state = .idle ∨ s.tbs.state = .ending →
        t.tbs.state = s.tbs.state ∧ t.tbs.lastResult = s.tbs.lastResult) ∧
      (∀ row, s.ownRow = some row → s.tbs.state = .granted →
        (r.table.holds s.station row = true → t.tbs.state = .granted) ∧
        (r.table.holds s.station row = false →
          t.tbs.state = .idle ∧ t.tbs.lastResult = .lost ∧ t.notice .lost = true)) ∧
      (∀ row, s.ownRow = some row → s.tbs.state = .asking → ∀ queued,
        queued = (s.tbs.claimInQueue && s.lkc.queue.any (EventFrame.isClaimFor row)) →
        (queued = true → t.tbs.state = .asking) ∧
        (queued = false → r.table.holds s.station row = true →
          t.tbs.state = .granted ∧ t.tbs.lastResult = .granted ∧ t.notice .granted = true) ∧
        (queued = false → r.table.holds s.station row = false →
          (r.waitsFor s.station row = true → t.tbs.state = .asking) ∧
          (r.waitsFor s.station row = false →
            t.tbs.state = .idle ∧ t.tbs.lastResult = .refused ∧ t.notice .refused = true))) ∧
      (s.lpt.access = .idle → t.lpt.access = .idle) ∧
      (s.lpt.access = .held →
        (r.table.holds s.station .access = true → t.lpt.access = .held) ∧
        (r.table.holds s.station .access = false → t.lpt.access = .idle ∧ t.notice .lost = true)) ∧
      (s.lpt.access = .asking → ∀ queued,
        queued = (s.lpt.accessClaim && s.lkc.queue.any (EventFrame.isClaimFor .access)) →
        (queued = true → t.lpt.access = .asking) ∧
        (queued = false → r.table.holds s.station .access = true → t.lpt.access = .held ∧ t.notice .granted = true) ∧
        (queued = false → r.table.holds s.station .access = false →
          (r.waitsFor s.station .access = true → t.lpt.access = .asking) ∧
          (r.waitsFor s.station .access = false → t.lpt.access = .idle ∧ t.notice .refused = true))) ∧
      (s.role = .chute →
        (r.column.hung ≠ none → s.dre.state ≠ .faulted →
          t.dre.state = .hung ∧ (s.dre.state ≠ .hung → t.dre.current = none)) ∧
        (r.column.hung = none → s.dre.state = .hung →
          (s.dre.ownHangup = true → t.dre.state = .hung) ∧
          (s.dre.ownHangup = false →
            t.dre.state =
              if t.grade < 2 then .idle
              else if t.gradeLessWatch < 2 ∧ t.dre.gate = .shut then .idle else .faulted)) ∧
        (∀ row, s.ownRow = some row → r.column.hung = none →
          (s.dre.state = .idle →
            t.dre.state = .idle ∧
            t.dre.releasePending = (s.dre.releasePending && r.table.holds s.station row)) ∧
          (s.dre.state = .suspended → r.table.holds s.station row = false →
            t.dre.state = .idle ∧
            (s.dre.current ≠ none →
              t.dre.current = none ∧ t.dre.next = none ∧ t.dre.lastOutcome = .lost ∧ t.notice .orderDone = true)) ∧
          (∀ amount left, s.dre.state = .suspended → r.table.holds s.station row = true →
            s.dre.current = some (.dwell amount left) →
            t.dre.current = s.dre.current ∧ t.dre.next = s.dre.next ∧
            t.dre.state = if s.standsPaused = true ∨ s.holdLine = true then .suspended else .dwelling) ∧
          (∀ target drawn, s.dre.state = .suspended → r.table.holds s.station row = true →
            s.dre.current = some (.draw target drawn) →
            (s.cushionFails = false → t.dre.current = s.dre.current ∧ t.dre.next = s.dre.next ∧
              t.dre.state = if s.standsPaused = true ∨ s.holdLine = true then .suspended else .running) ∧
            (s.cushionFails = true → t.dre.lastOutcome = .cushion ∧ t.notice .orderDone = true)) ∧
          (s.dre.state = .asking → ∀ queued,
            queued = (s.dre.claimInQueue && s.lkc.queue.any (EventFrame.isClaimFor row)) →
            (queued = true → t.dre.state = .asking ∧ t.dre.current = s.dre.current ∧ t.dre.next = s.dre.next) ∧
            (queued = false → r.table.holds s.station row = true →
              (∀ amount left, s.dre.current = some (.dwell amount left) →
                t.dre.current = some (.dwell amount amount) ∧
                t.dre.state = if s.standsPaused = true ∨ s.holdLine = true then .suspended else .dwelling) ∧
              (∀ target drawn, s.dre.current = some (.draw target drawn) →
                (s.cushionFails = false → t.dre.current = some (.draw target 0) ∧
                  t.dre.state = if s.standsPaused = true ∨ s.holdLine = true then .suspended else .running) ∧
                (s.cushionFails = true → t.dre.lastOutcome = .cushion ∧ t.notice .orderDone = true))) ∧
            (queued = false → r.table.holds s.station row = false →
              (r.waitsFor s.station row = true →
                t.dre.state = .asking ∧ t.dre.current = s.dre.current ∧ t.dre.next = s.dre.next) ∧
              (r.waitsFor s.station row = false → t.dre.state = .idle ∧
                (s.dre.current ≠ none →
                  t.dre.current = none ∧ t.dre.next = none ∧ t.dre.lastOutcome = .lost ∧
                  t.notice .orderDone = true))))))

/-- R104, R107, R111. A freeze at its last round ends at the round start (the part row of log 8), and a HANGUP delivered to a CATCHUP station ends its view's freeze, also one whose chute is out of range (log 18); either abandons an attempt, and the third failure raises CATCHUP-FAILED. -/
def Obligations.FreezeLimitAndHangupAtAReceiver : Prop :=
  ∀ s : State,
    (∀ run, s.rsc.link = .inStep → s.agu.tracker.run = some run → run.remaining ≤ 1 →
      ∃ t, exec .freezeLimit s = .next t ∧ t.agu.tracker = { s.agu.tracker with run := none } ∧
        t.agu.snapshot = none ∧ t.notice .freeze = true ∧ t.record = s.record ∧ t.rsc = s.rsc ∧
        s.sameConditions t []) ∧
    (∀ c, ((c = Instr.freezeLimit ∧ ∃ run, s.agu.view.run = some run ∧ run.remaining ≤ 1) ∨
        ∃ k chute, c = Instr.hangupFrame k chute ∧ s.delivers (.hangupFrame k chute) k 0 ∧
          s.agu.view.run ≠ none) →
      s.rsc.link = .catchup →
      ∃ t, exec c s = .next t ∧ t.agu.view = { s.agu.view with run := none } ∧ t.notice .freeze = true ∧
        t.record = s.record ∧ t.rsc.link = .catchup ∧ s.sameConditions t [.catchupFailed] ∧
        (s.attempting = true →
          t.agu.receiver = .backoff ∧ t.agu.failures = min (s.agu.failures + 1) 15 ∧ t.agu.backoffRounds = 0 ∧
            t.agu.store = [] ∧ t.active .catchupFailed = (s.active .catchupFailed || decide (2 ≤ s.agu.failures))) ∧
        (s.attempting = false →
          t.agu.receiver = s.agu.receiver ∧ t.agu.failures = s.agu.failures ∧
            t.active .catchupFailed = s.active .catchupFailed))

/-- R108, R109. A COLLECTING receiver keeps the piece of a STATUS frame under its own config digest whose receivers include it; once every piece is held it installs the record they describe, or keeps its own and gives up; the store is then empty. Any other STATUS, one that carries no piece or comes in another link state among them, leaves receiver, store and view, and outside IN-STEP the record. That a piece out of range leaves the store even under another image id is the model's choice (log 52). -/
def Obligations.StatusFramePiecesAreKeptAndInstalled : Prop :=
  (∀ (s : State) (k : BitVec 4) (f : StatusFields) (time : Nat) (p : Piece),
    s.delivers (.statusFrame k f time) k time → s.rsc.link = .catchup → f.piece = some p →
    ∃ t store, exec (.statusFrame k f time) s = .next t ∧ s.sameSetting t ∧ s.sameConditions t [] ∧
      store = storePiece { index := p.index.toNat, content := p.content }
        (if s.agu.store ≠ [] ∧ s.agu.storeImage = p.image.toNat then s.agu.store else []) ∧
      (s.agu.receiver = .collecting → f.config = s.ownDigest → hasStation p.receivers s.station = true →
        pieceStorable p = true →
        t.agu.view =
          { run := some { provider := k.toNat, receivers := p.receivers, remaining := p.remaining.toNat }
            imageId := p.image.toNat } ∧
        (storeComplete store = false →
          t.agu.store = store ∧ t.agu.storeImage = p.image.toNat ∧ t.agu.receiver = .collecting ∧
            t.record = s.record) ∧
        (storeComplete store = true → t.agu.store = [] ∧
          (∀ r, buildImage s.settings store = some r →
            t.record = some r ∧ t.agu.receiver = .installing ∧
              (EventFrame.caught .installed ∈ t.lkc.queue ∨ t.agu.keptCaught = some .installed)) ∧
          (buildImage s.settings store = none →
            t.record = s.record ∧ t.agu.receiver = .abandoning ∧
              (EventFrame.caught .abandoned ∈ t.lkc.queue ∨ t.agu.keptCaught = some .abandoned))))) ∧
  ∀ (s : State) (k : BitVec 4) (f : StatusFields) (time : Nat),
    s.delivers (.statusFrame k f time) k time →
    s.rsc.link ≠ .catchup ∨ s.agu.receiver ≠ .collecting ∨ f.config ≠ s.ownDigest ∨
      (∀ p, f.piece = some p → hasStation p.receivers s.station = false ∨ pieceStorable p = false) →
    ∃ t, exec (.statusFrame k f time) s = .next t ∧ s.sameSetting t ∧ s.sameConditions t [] ∧
      t.agu = s.agu ∧ (s.rsc.link ≠ .inStep → t.record = s.record)

/-- R103, R106, R109. The image is the record: the pieces a provider cuts from any record within the ranges and laws of R3, R4, R8, R28, R31 and R32 build that same record, leases and ages with it, at any station of the same configuration. -/
def Obligations.ImageOfARecordBuildsThatRecord : Prop :=
  ∀ (c : Settings) (r : Record) (snap : Snapshot),
    snap = { digest := r.digest, totalPieces := totalPieces r.column.lots.length r.queue.length } →
    r.lawful = true → r.column.nextLot ≤ 65535 → r.column.overdraw ≤ 65535 →
    (∀ h, r.column.hung = some h → (h.chute = 1 ∨ h.chute = 2) ∧ h.stamp ≤ 6143 ∧ h.total ≤ 2097120) →
    (∀ l ∈ r.column.lots, l.lawful = true ∧ l.number ≤ 65535 ∧ l.source ≤ 6 ∧ (l.source = 0 ↔ l.kind = .found) ∧
      l.gradeClass ≤ 7 ∧ l.tonnes ≤ 65535 ∧ ∀ h, l.held = some h → h ≤ 4095) →
    (∀ row g, r.table.get row = some g → 1 ≤ g.holder ∧ g.holder ≤ 12 ∧ 1 ≤ g.lease ∧ g.lease ≤ 255 ∧
      g.reservation ≤ 4095 ∧ reservationFits row g.reservation = true ∧ claimMatches c row g.purpose = true) →
    (∀ e ∈ r.queue, 1 ≤ e.station ∧ e.station ≤ 12 ∧ e.age ≤ c.waitLimit.toNat ∧ e.reservation ≤ 4095 ∧
      e.reservation = (if isLevel e.row then c.tipReservation.toNat else 0) ∧
      claimMatches c e.row e.purpose = true) →
    buildImage c ((List.range snap.totalPieces).map fun i => { index := i, content := pieceContent r snap i }) = some r

/-- R60, R112. A retry that falls due in BACKOFF (the part row of log 8: it is the start of the round that follows, and takes over the slots heard in the round it ends): held over while a CAUGHT of the receiver waits, else asked of the lowest-numbered member of the majority of the qualifying peers; without a qualifying peer a station with a record waits on, and one without goes back to JOINING. -/
def Obligations.RetryDueAsksWaitsOrRejoins : Prop :=
  ∀ s u : State,
    u = { s with
      rsc := { s.rsc with
        slotFrames := List.replicate 12 none, heard := List.replicate 12 none, lastHeard := s.rsc.heard }
      agu := { s.agu with backoffRounds := s.agu.backoffRounds + 1 } } →
    s.rsc.link = .catchup → s.agu.receiver = .backoff → s.agu.view.run = none →
    (s.agu.failures < 3 ∧ 1 ≤ s.agu.backoffRounds) ∨
      (3 ≤ s.agu.failures ∧ 2 ≤ s.agu.backoffRounds ∧ s.rsc.roundNumber = 23) →
    ∃ t, exec .retryDue s = .next t ∧ t.record = s.record ∧ s.sameSetting t ∧
      (s.caughtPending = true → State.settledFrom u t) ∧
      (∀ k, s.caughtPending = false → majorityLowest u.qualifyingPeers = some k →
        t.rsc.link = .catchup ∧ t.agu.receiver = .asking ∧ t.notice .catchup = true ∧
          ((∀ f ∈ s.lkc.queue, f.isCatchup = false) → t.lkc.queue = s.lkc.queue ++ [.catchup k])) ∧
      (s.caughtPending = false → u.qualifyingPeers = [] → s.record ≠ none → State.settledFrom u t) ∧
      (s.caughtPending = false → u.qualifyingPeers = [] → s.record = none →
        t.rsc = { u.rsc with link := .joining, joiningCount := 0 } ∧ t.agu.receiver = .idle ∧ t.agu.failures = 0 ∧
          t.agu.store = [] ∧ t.agu.view.run = none ∧ t.active .catchupFailed = false)

/-! ### The sequencer and the engine -/

/-- R116, R118, R119. TIP-BEGIN and BREAK-BEGIN, TIP-END and BREAK-END, TIP-ABANDON and BREAK-ABANDON: the answers in their order; taken, the CLAIM, the LOT-IN or BROKEN, the WITHDRAW while ASKING or the RELEASE while GRANTED stands at the newest end of the queue and the sequencer is ASKING, or ENDING with that frame and its output off; otherwise nothing but the answer changes. The cleared byte of BREAK-END sets the flag at 1 and clears it at 0; another byte gives a flag the manual does not state (log 5). The count of frames of the closing kind that stand before the closing frame is the model's own (log 11). -/
def Obligations.SessionRequestsByTheirAnswers : Prop :=
  (∀ (s : State) (c : Instr) (r : Role) (p : Purpose),
      (c = .tipBegin ∧ r = .tip ∧ p = .tip) ∨ (c = .breakBegin ∧ r = .breaker ∧ p = .brk) → s.stl.loaded = true →
      ∃ t a, exec c s = .next t ∧
        a = (if s.rsc.link = .offline then Answer.configOnly else if s.role ≠ r then .role
          else if s.rsc.link ≠ .inStep then .notInStep else if s.holdLine = true then .held
          else if 2 ≤ s.grade then .degraded else if s.tbs.state ≠ .idle then .busy
          else if 8 ≤ eventCount s.lkc.queue then .full else .taken) ∧
        (a ≠ .taken → t = { s with lpt := { s.lpt with answer := some a, readData := [] } }) ∧
        ∀ row, a = .taken → s.ownRow = some row →
          State.settledFrom
            { s with
              tbs := { s.tbs with state := .asking, claimInQueue := true }
              lkc := { s.lkc with queue := s.lkc.queue ++ [.claim row p] }
              lpt := { s.lpt with answer := some .taken, readData := [] } } t) ∧
  (∀ s : State, s.stl.loaded = true →
      (∀ tonnes held grade, ∃ t a, exec (.tipEnd tonnes held grade) s = .next t ∧
        a = (if s.rsc.link = .offline then Answer.configOnly else if s.role ≠ .tip then .role
          else if s.rsc.link ≠ .inStep ∧ s.rsc.link ≠ .catchup then .notInStep
          else if s.tbs.state ≠ .granted then .busy
          else if tonnes.toNat < 1 ∨ 4095 < tonnes.toNat ∨ 4095 < held.toNat ∨ 6 < grade.toNat then .badArg
          else if 8 ≤ eventCount s.lkc.queue then .full else .taken) ∧
        (a ≠ .taken → t = { s with lpt := { s.lpt with answer := some a, readData := [] } }) ∧
        (a = .taken → t.tbs.output = false ∧
          State.settledFrom
            { s with
              tbs := { s.tbs with
                state := .ending, closing := .lotIn, ahead := s.closingQueued .lotIn
                pendingEnd := some (.tip tonnes.toNat held.toNat grade.toNat) }
              lkc := { s.lkc with queue := s.lkc.queue ++ [.lotIn s.place tonnes.toNat held.toNat grade.toNat] }
              lpt := { s.lpt with answer := some .taken, readData := [] } } t)) ∧
      ∀ passed cleared, ∃ t a flag, exec (.breakEnd passed cleared) s = .next t ∧
        (cleared = 0 → flag = false) ∧ (cleared = 1 → flag = true) ∧
        a = (if s.rsc.link = .offline then Answer.configOnly else if s.role ≠ .breaker then .role
          else if s.rsc.link ≠ .inStep ∧ s.rsc.link ≠ .catchup then .notInStep
          else if s.tbs.state ≠ .granted then .busy else if 4095 < passed.toNat then .badArg
          else if 8 ≤ eventCount s.lkc.queue then .full else .taken) ∧
        (a ≠ .taken → t = { s with lpt := { s.lpt with answer := some a, readData := [] } }) ∧
        (a = .taken → t.tbs.output = false ∧
          State.settledFrom
            { s with
              tbs := { s.tbs with
                state := .ending, closing := .broken, ahead := s.closingQueued .broken
                pendingEnd := some (.brk passed.toNat flag) }
              lkc := { s.lkc with queue := s.lkc.queue ++ [.broken s.place passed.toNat flag] }
              lpt := { s.lpt with answer := some .taken, readData := [] } } t)) ∧
  (∀ (s : State) (c : Instr) (r : Role),
      (c = .tipAbandon ∧ r = .tip) ∨ (c = .breakAbandon ∧ r = .breaker) → s.stl.loaded = true →
      ∃ t a, exec c s = .next t ∧
        a = (if s.rsc.link = .offline then Answer.configOnly else if s.role ≠ r then .role
          else if s.rsc.link ≠ .inStep ∧ s.rsc.link ≠ .catchup then .notInStep
          else if s.tbs.state = .idle ∨ s.tbs.state = .ending then .busy
          else if 8 ≤ eventCount s.lkc.queue then .full else .taken) ∧
        (a ≠ .taken → t = { s with lpt := { s.lpt with answer := some a, readData := [] } }) ∧
        ∀ row, a = .taken → s.ownRow = some row → t.tbs.output = false ∧
          State.settledFrom
            { s with
              tbs := { s.tbs with
                state := .ending, closing := if s.tbs.state = .granted then .release else .withdraw
                ahead := s.closingQueued (if s.tbs.state = .granted then .release else .withdraw) }
              lkc := { s.lkc with queue := s.lkc.queue ++
                [if s.tbs.state = .granted then .release row else .withdraw row] }
              lpt := { s.lpt with answer := some .taken, readData := [] } } t)

/-- R131. DRAW-QUEUE: the answers in their order; taken, an IDLE engine asks for its row with the order as its current one, any other keeps it as its next. -/
def Obligations.DrawQueueByItsAnswer : Prop :=
  ∀ (s : State) (kind : Byte) (amount : Word16), s.stl.loaded = true →
    ∃ t a, exec (.drawQueue kind amount) s = .next t ∧
      a = (if s.rsc.link = .offline then Answer.configOnly else if s.role ≠ .chute then .role
        else if s.rsc.link ≠ .inStep then .notInStep else if s.holdLine = true then .held
        else if 2 ≤ s.grade then .degraded
        else if ¬(kind = 1 ∧ 1 ≤ amount.toNat ∧ amount.toNat ≤ 4095) ∧
            ¬(kind = 2 ∧ 1 ≤ amount.toNat ∧ amount.toNat ≤ 255) then .badArg
        else if s.dre.state = .hung ∨ s.dre.state = .faulted then .busy
        else if s.dre.current ≠ none ∧ s.dre.next ≠ none then .full
        else if s.dre.state = .idle ∧ 8 ≤ eventCount s.lkc.queue then .full else .taken) ∧
      (a ≠ .taken → t = { s with lpt := { s.lpt with answer := some a, readData := [] } }) ∧
      ∀ row o, a = .taken → s.ownRow = some row →
        o = (if kind = 1 then Order.draw amount.toNat 0 else .dwell amount.toNat amount.toNat) →
        (s.dre.state = .idle →
          State.settledFrom
            { s with
              dre := { s.dre with current := some o, claimInQueue := true, state := .asking }
              lkc := { s.lkc with queue := s.lkc.queue ++ [.claim row .draw] }
              lpt := { s.lpt with answer := some .taken, readData := [] } } t) ∧
        (s.dre.state ≠ .idle →
          State.settledFrom
            { s with
              dre := { s.dre with next := some o }
              lpt := { s.lpt with answer := some .taken, readData := [] } } t)

/-- R142. DRAW-STOP: taken wherever an order stands outside OFFLINE at a CHUTE station; both orders end with STOPPED; while asking a WITHDRAW is offered, while the row is in use the gate closes and a RELEASE is offered and kept where refused; the engine is IDLE. -/
def Obligations.DrawStopByItsAnswer : Prop :=
  ∀ s : State, s.stl.loaded = true →
    ∃ t a, exec .drawStop s = .next t ∧
      a = (if s.rsc.link = .offline then Answer.configOnly else if s.role ≠ .chute then .role
        else if s.dre.current = none then .busy else .taken) ∧
      (a ≠ .taken → t = { s with lpt := { s.lpt with answer := some a, readData := [] } }) ∧
      ∀ row, a = .taken → s.ownRow = some row →
        t.notice .orderDone = true ∧ (s.dre.next ≠ none → t.notice .orderRoom = true) ∧
        t.dre.current = none ∧ t.dre.next = none ∧ t.dre.lastOutcome = .stopped ∧ t.lpt.answer = some .taken ∧
        t.record = s.record ∧ t.rsc = s.rsc ∧ t.agu = s.agu ∧ s.sameConditions t [] ∧ t.settings = s.settings ∧
        t.tbs.state = s.tbs.state ∧ t.dre.unannounced = s.dre.unannounced ∧ t.dre.queued = s.dre.queued ∧
        (s.dre.state = .asking →
          t.dre.state = .idle ∧ t.dre.releasePending = s.dre.releasePending ∧
          t.lkc.queue = s.lkc.queue ++ (if s.takes (.withdraw row) = true then [.withdraw row] else [])) ∧
        (s.dre.state = .running ∨ s.dre.state = .dwelling ∨ s.dre.state = .suspended →
          t.dre.state = .idle ∧ t.dre.releasePending = true ∧
          (s.takes (.release row) = true →
            t.lkc.queue = s.lkc.queue ++ [.release row] ∧ t.dre.keptRelease = s.dre.keptRelease) ∧
          (s.takes (.release row) = false → t.lkc.queue = s.lkc.queue ∧ t.dre.keptRelease = true) ∧
          (s.rsc.link ≠ .halted → s.dre.gate = .opening ∨ s.dre.gate = .isOpen →
            t.dre.gate = .closing ∨ t.dre.gate = .shut))

/-- R133, R134. GATE-RESET: the answers in their order; taken, the STUCK gate is CLOSING with stroke count 0, or SHUT at once where its limit is asserted. A field tick raises the stroke count of a stroke by 1, and at the stroke time leaves the gate STUCK and raises ACTUATOR, also where the debounce of its limit ends at that very tick (the order within a tick is the model's choice, log 48); in HALTED and without a stroke the count stands. GATE_STUCK is that end of a stroke, whatever the count was: it brings the field ticks up to it (the model's choice, log 49). -/
def Obligations.GateResetAndStuckGate : Prop :=
  (∀ s : State, s.stl.loaded = true →
      ∃ t a, exec .gateReset s = .next t ∧
        a = (if s.rsc.link = .offline then Answer.configOnly else if s.role ≠ .chute then .role
          else if s.rsc.link = .halted then .notInStep else if s.dre.gate ≠ .stuck then .busy else .taken) ∧
        (a ≠ .taken → t = { s with lpt := { s.lpt with answer := some a, readData := [] } }) ∧
        (a = .taken →
          t.dre.gate = (if s.asserted .gateShutLimit = true then .shut else .closing) ∧ t.dre.strokeCount = 0 ∧
          t.notice .gate = true ∧
          State.settledFrom { s with lpt := { s.lpt with answer := some .taken, readData := [] } } t)) ∧
  (∀ s : State, s.dre.gate = .opening ∨ s.dre.gate = .closing → s.rsc.link ≠ .halted →
      (s.dre.strokeCount + 1 < s.settings.strokeTime.toNat →
        strokeTick s = { s with dre := { s.dre with strokeCount := s.dre.strokeCount + 1 } } ∧
        ((∀ i, i < 8 → (s.channel i).modeIs .lineOut = true → (s.channel i).pin = (s.channel i).driven) →
          (fieldTick s).dre = { s.dre with strokeCount := s.dre.strokeCount + 1 } ∧
          (fieldTick s).conditions = s.conditions)) ∧
      (s.settings.strokeTime.toNat ≤ s.dre.strokeCount + 1 →
        (fieldTick s).dre.gate = .stuck ∧ (fieldTick s).dre.strokeCount = s.settings.strokeTime.toNat ∧
        (fieldTick s).active .actuator = true ∧ (fieldTick s).notice .gate = true)) ∧
  (∀ s : State, (s.dre.gate = .shut ∨ s.dre.gate = .isOpen ∨ s.dre.gate = .stuck) ∨ s.rsc.link = .halted →
      strokeTick s = s) ∧
  (∀ s : State, s.dre.gate = .opening ∨ s.dre.gate = .closing → s.rsc.link ≠ .halted →
      ∃ t, exec .gateStuck s = .next t ∧ t.dre.gate = .stuck ∧ t.active .actuator = true ∧ t.notice .gate = true ∧
        t.dre.openValve = false ∧ t.dre.closeValve = false ∧ s.sameConditions t [.actuator] ∧
        t.record = s.record ∧ t.rsc = s.rsc ∧ t.agu = s.agu ∧ s.sameSetting t)

/-- R140, R167, R170. UNHANG, SIGHT, ACCESS-BEGIN and ACCESS-END: the answers in their order; taken, the frame stands at the newest end, and access moves to ASKING or back to IDLE. -/
def Obligations.FrameRequestsByTheirAnswers : Prop :=
  ∀ s : State, s.stl.loaded = true →
    (∃ t a, exec .unhang s = .next t ∧
      a = (if s.rsc.link = .offline then Answer.configOnly else if s.role ≠ .chute then .role
        else if s.rsc.link ≠ .inStep then .notInStep else if s.columnHung = false then .busy
        else if 8 ≤ eventCount s.lkc.queue then .full else .taken) ∧
      (a ≠ .taken → t = { s with lpt := { s.lpt with answer := some a, readData := [] } }) ∧
      (a = .taken →
        State.settledFrom
          { s with
            lkc := { s.lkc with queue := s.lkc.queue ++ [.unhang s.place] }
            lpt := { s.lpt with answer := some .taken, readData := [] } } t)) ∧
    (∀ measured, ∃ t a, exec (.sight measured) s = .next t ∧
      a = (if s.rsc.link = .offline then Answer.configOnly else if s.rsc.link ≠ .inStep then .notInStep
        else if s.columnHung = true then .busy
        else if 8 ≤ eventCount s.lkc.queue then .full else .taken) ∧
      (a ≠ .taken → t = { s with lpt := { s.lpt with answer := some a, readData := [] } }) ∧
      (a = .taken →
        State.settledFrom
          { s with
            lkc := { s.lkc with queue := s.lkc.queue ++ [.sighting measured.toNat] }
            lpt := { s.lpt with answer := some .taken, readData := [] } } t)) ∧
    (∃ t a, exec .accessBegin s = .next t ∧
      a = (if s.rsc.link = .offline then Answer.configOnly else if s.rsc.link ≠ .inStep then .notInStep
        else if s.holdLine = true then .held else if 2 ≤ s.grade then .degraded
        else if s.lpt.access ≠ .idle then .busy
        else if 8 ≤ eventCount s.lkc.queue then .full else .taken) ∧
      (a ≠ .taken → t = { s with lpt := { s.lpt with answer := some a, readData := [] } }) ∧
      (a = .taken →
        State.settledFrom
          { s with
            lkc := { s.lkc with queue := s.lkc.queue ++ [.claim .access .access] }
            lpt := { s.lpt with
              access := .asking, accessClaim := true, answer := some .taken, readData := [] } } t)) ∧
    ∃ t a, exec .accessEnd s = .next t ∧
      a = (if s.rsc.link = .offline then Answer.configOnly
        else if s.rsc.link ≠ .inStep ∧ s.rsc.link ≠ .catchup then .notInStep
        else if s.lpt.access = .idle then .busy
        else if 8 ≤ eventCount s.lkc.queue then .full else .taken) ∧
      (a ≠ .taken → t = { s with lpt := { s.lpt with answer := some a, readData := [] } }) ∧
      (a = .taken →
        State.settledFrom
          { s with
            lkc := { s.lkc with queue := s.lkc.queue ++
              [if s.lpt.access = .held then .release .access else .withdraw .access] }
            lpt := { s.lpt with access := .idle, answer := some .taken, readData := [] } } t)

/-- R131, R135, R136, R138, R147. The end of an order with COMPLETE or CUSHION: ORDER-DONE and the outcome, then the next order moves up fresh with ORDER-ROOM, or the engine is IDLE with its RELEASE offered and the gate closing; and the cushion test fails exactly when the total less effective cushion, unannounced and queued tonnes is 0 or less. An edge of the belt scale that makes whole tonnes brings this about: its tonnes are unannounced and count towards the current DRAW order, which ends with COMPLETE at its target, else with CUSHION where the test fails, and a DRAW order that moves up is tested at once. -/
def Obligations.OrdersEndAndMoveUp : Prop :=
  (∀ (s : State) (o : OrderOutcome) (row : Row), s.ownRow = some row →
    (endCurrent o s).dre.lastOutcome = o ∧ (endCurrent o s).notice .orderDone = true ∧
    (endCurrent o s).dre.next = none ∧ (endCurrent o s).record = s.record ∧ (endCurrent o s).rsc = s.rsc ∧
    (s.dre.next = none →
      (endCurrent o s).dre.current = none ∧ (endCurrent o s).dre.state = .idle ∧
      (endCurrent o s).dre.releasePending = true ∧
      (s.takes (.release row) = true → (endCurrent o s).lkc.queue = s.lkc.queue ++ [.release row]) ∧
      (s.takes (.release row) = false → (endCurrent o s).dre.keptRelease = true) ∧
      (s.rsc.link ≠ .halted → (endCurrent o s).dre.gate ≠ .opening ∧ (endCurrent o s).dre.gate ≠ .isOpen)) ∧
    (∀ target drawn, s.dre.next = some (.draw target drawn) →
      (endCurrent o s).dre.current = some (.draw target 0) ∧ (endCurrent o s).notice .orderRoom = true ∧
      (endCurrent o s).dre.state = (if s.causeStands = true then .suspended else .running) ∧
      (endCurrent o s).lkc = s.lkc) ∧
    (∀ amount left, s.dre.next = some (.dwell amount left) →
      (endCurrent o s).dre.current = some (.dwell amount amount) ∧ (endCurrent o s).notice .orderRoom = true ∧
      (endCurrent o s).dre.state = (if s.causeStands = true then .suspended else .dwelling) ∧
      (endCurrent o s).lkc = s.lkc)) ∧
  (∀ (s : State) (r : Record), s.record = some r →
    (s.cushionFails = true ↔
      (r.column.total : Int) - r.effectiveCushion s.settings - s.dre.unannounced - s.dre.queued ≤ 0)) ∧
  ∀ (s : State) (i : Fin 8) (ch : Channel) (rising ticked : Bool) (r : Record) (row : Row) (target drawn n : Nat)
      (fails : Bool),
    s.shaped → s.channel i.val = ch → ch.modeIs .countIn = true → ch.func = some .beltScale →
    ticked = true ∨ ch.fresh = false → ch.y = 2 ∨ (ch.y = 0 ∧ rising = true) ∨ (ch.y = 1 ∧ rising = false) →
    1 ≤ ch.x.toNat → ch.x.toNat ≤ ch.remainder + 1 → n = min (ch.whole + 1) 65535 →
    s.rsc.link ≠ .offline → s.rsc.link ≠ .halted → s.record = some r → s.ownRow = some row →
    s.dre.state = .running ∨ s.dre.state = .suspended → s.dre.current = some (.draw target drawn) →
    fails = decide (r.column.total ≤
      r.effectiveCushion s.settings + min (s.dre.unannounced + n) 65535 + s.dre.queued) →
    ∃ t, exec (.countInEdge i rising ticked) s = .next t ∧
      t.dre.unannounced = min (s.dre.unannounced + n) 65535 ∧ t.dre.queued = s.dre.queued ∧
      (t.channel i.val).whole = 0 ∧ t.record = s.record ∧ t.rsc = s.rsc ∧
      (drawn + n < target → fails = false →
        t.dre.current = some (.draw target (drawn + n)) ∧ t.dre.next = s.dre.next ∧
        t.dre.state = if s.causeStands = true then .suspended else .running) ∧
      (target ≤ drawn + n ∨ fails = true → t.notice .orderDone = true ∧ t.dre.next = none ∧
        (s.dre.next = none →
          t.dre.lastOutcome = (if target ≤ drawn + n then .complete else .cushion) ∧
          t.dre.current = none ∧ t.dre.state = .idle ∧ t.dre.releasePending = true ∧
          (s.takes (.release row) = true → t.lkc.queue = s.lkc.queue ++ [.release row]) ∧
          (s.takes (.release row) = false → t.dre.keptRelease = true)) ∧
        (∀ amount left, s.dre.next = some (.dwell amount left) →
          t.dre.lastOutcome = (if target ≤ drawn + n then .complete else .cushion) ∧
          t.dre.current = some (.dwell amount amount) ∧ t.notice .orderRoom = true ∧
          t.dre.state = if s.causeStands = true then .suspended else .dwelling) ∧
        (∀ goal old, s.dre.next = some (.draw goal old) → t.notice .orderRoom = true ∧
          (fails = false →
            t.dre.lastOutcome = .complete ∧ t.dre.current = some (.draw goal 0) ∧
            t.dre.state = if s.causeStands = true then .suspended else .running) ∧
          (fails = true →
            t.dre.lastOutcome = .cushion ∧ t.dre.current = none ∧ t.dre.state = .idle ∧
            t.dre.releasePending = true)))

/-- R125, R135, R136, R139, R157, R169, R171. The parts of a round start (log 8) in which a dwell ends, from its last round; in which the flow watch reaches the flow timeout: the hang-up is declared, its HANGUP offered and kept where refused, both orders end with HUNG, the gate closes and the engine is HUNG; and in which the host service countdown runs out: HOST-SILENT is raised, a session in ASKING or GRANTED is given up and an asking access as well, a held access stays. The manual leaves open whether each of the two meets the discard of its CLAIM first (log 4), and which offers its frame first (log 46): the statement holds either way. -/
def Obligations.CountsThatReachTheirEnd : Prop :=
  (∀ (s : State), s.rsc.link ≠ .halted → s.role = .chute →
      (∀ amount left row, s.dre.state = .dwelling → s.dre.current = some (.dwell amount left) → left ≤ 1 →
        s.dre.next = none → s.ownRow = some row →
        ∃ t, exec .dwellComplete s = .next t ∧ t.dre.state = .idle ∧ t.dre.current = none ∧
          t.dre.lastOutcome = .complete ∧ t.dre.releasePending = true ∧ t.notice .orderDone = true ∧
          t.record = s.record ∧ t.rsc = s.rsc ∧ s.sameSetting t ∧
          (s.takes (.release row) = true → t.lkc.queue = s.lkc.queue ++ [.release row])) ∧
      (s.dre.state = .running → s.dre.gate = .isOpen → s.dre.flowWatch < 255 →
        s.settings.flowTimeout.toNat ≤ s.dre.flowWatch + 1 →
        ∃ t, exec .flowTimeout s = .next t ∧ t.dre.state = .hung ∧ t.dre.ownHangup = true ∧
          (t.dre.gate = .closing ∨ t.dre.gate = .shut) ∧ t.record = s.record ∧ t.rsc = s.rsc ∧ s.sameSetting t ∧
          (s.dre.current ≠ none →
            t.dre.current = none ∧ t.dre.next = none ∧ t.dre.lastOutcome = .hung ∧ t.notice .orderDone = true) ∧
          (s.takes (.hangup s.place) = true → t.lkc.queue = s.lkc.queue ++ [.hangup s.place]) ∧
          (s.takes (.hangup s.place) = false → t.dre.keptHangup = true))) ∧
  (∀ (s : State), s.lpt.countdown = 1 → s.settings.hostInterval ≠ 0 → s.rsc.link ≠ .offline →
      s.active .hostSilent = false → s.grade < 2 →
      ∃ t, exec .hostSilent s = .next t ∧ t.active .hostSilent = true ∧ t.lpt.countdown = 0 ∧
        t.notice .grade = true ∧ s.sameConditions t [.hostSilent] ∧ t.record = s.record ∧ t.rsc = s.rsc ∧
        t.agu = s.agu ∧ t.settings = s.settings ∧
        (s.tbs.state = .asking → t.tbs.state = .idle) ∧
        (∀ row, s.tbs.state = .granted → s.ownRow = some row →
          t.tbs.state = .idle ∧ t.tbs.lastResult = .abandoned ∧
            (EventFrame.release row ∈ t.lkc.queue ∨ t.tbs.keptRelease = true)) ∧
        (s.tbs.state = .idle ∨ s.tbs.state = .ending → t.tbs.state = s.tbs.state) ∧
        (s.lpt.access = .asking → t.lpt.access = .idle) ∧ (s.lpt.access = .held → t.lpt.access = .held))

/-! ### The Local Port, the channels and the resets -/

/-- The step: the command at the front of the queue acts on the state with the queue's rest; with an empty queue one mark of link time passes (the model's choice, log 7), of 256 µs at rate code 0 and half of it at each next one, with a field tick where 1 ms is full: the strap load, the stroke and then every channel (logs 7, 48). Every command answers a next state and leaves the queue to the step. -/
def Obligations.StepRunsTheFrontCommand : Prop :=
  (∀ (c : Instr) (rest : List Instr) (s : State), s.pending = c :: rest →
    step s = exec c { s with pending := rest }) ∧
  (∀ s u : State, s.pending = [] → u = markPasses (planDue s) →
    step s = .next (tick s) ∧
    tick s = finish
      (if s.microseconds + 256 / 2 ^ s.rate < 1000 then
        { u with microseconds := s.microseconds + 256 / 2 ^ s.rate }
      else fieldTick { u with microseconds := s.microseconds + 256 / 2 ^ s.rate - 1000 })) ∧
  (∀ s : State, fieldTick s = (List.range 8).foldl (fun t i => channelTick i t) (strokeTick (strapTick s)) ∧
    strapTick s =
      if s.stl.loaded = true then s else { s with stl := { s.stl with ticks := min (s.stl.ticks + 1) 15 } }) ∧
  ∀ (c : Instr) (s : State), ∃ t, exec c s = .next t ∧ t.pending = s.pending

/-- R165, R166, R174. Every request is answered, before the strap load has ended with BUSY; an answer other than TAKEN comes with no other change and no read data. The strap load ends once for each release, with the word; STRAP_LOAD after it changes nothing (logs 9, 21). -/
def Obligations.RequestsNotTakenChangeNothing : Prop :=
  (∀ (c : Instr) (s : State), c.isRequest = true →
    ∃ t a, exec c s = .next t ∧ t.lpt.answer = some a ∧ (s.stl.loaded = false → a = .busy) ∧
      (a ≠ .taken → t = { s with lpt := { s.lpt with answer := some a, readData := [] } })) ∧
  ∀ (s : State) (w : BitVec 14), ∃ t, exec (.strapLoad w) s = .next t ∧
    (s.stl.loaded = true → t = s) ∧
    (s.stl.loaded = false →
      State.settledFrom { s with stl := { word := w, loaded := true, ticks := 15 } } t)

/-- R2, R65, R67, R84, R113, R115, R130, R155, R156, R167, R175. What the reset line, RESTART and ENTER-CONFIG leave; RESTART is refused in OFFLINE; the machine right after reset is the one the reset line leaves. The strap word is 0 until the load ends (log 1), and the strap valid flag with it clear. What no rule gives of the blocks a reset clears, the places in the plan, the reports of the slots, the count of BACKOFF and the step before among them, takes the model's values of log 25, and a new bid comes with it (log 15). -/
def Obligations.ResetsLeaveTheirState : Prop :=
  exec .resetLine State.reset = .next State.reset ∧
  (∀ s : State, ∃ t, exec .resetLine s = .next t ∧ t.record = none ∧
    t.rsc.link = .offline ∧ t.rsc.roundTime = 0 ∧ t.rsc.roundNumber = 23 ∧ t.rsc.sequence = 255 ∧
    t.rsc.paused = false ∧ t.rsc.span = .unopened ∧ t.rsc.abandoned = false ∧ t.rsc.holdSeen = false ∧
    t.rsc.joiningCount = 0 ∧ t.rsc.silentSpans = 0 ∧ (∀ k, 1 ≤ k → k ≤ 12 → t.missOf k = 7) ∧
    t.lkc.queue = [] ∧ t.lkc.sending = none ∧ t.lkc.ownFailures = 0 ∧ t.lkc.badFrames = 0 ∧ t.lkc.losses = 0 ∧
    t.agu.tracker = { run := none, imageId := 0 } ∧ t.agu.view.run = none ∧ t.agu.receiver = .idle ∧
    t.agu.store = [] ∧ t.agu.failures = 0 ∧ t.agu.snapshot = none ∧ t.agu.majority = 0 ∧ t.agu.compared = 0 ∧
    t.tbs.state = .idle ∧ t.tbs.claimInQueue = false ∧ t.tbs.closing = .none ∧ t.tbs.pendingEnd = none ∧
    t.tbs.lastResult = .none ∧ t.tbs.output = false ∧
    t.dre.current = none ∧ t.dre.next = none ∧ t.dre.state = .idle ∧ t.dre.gate = .shut ∧
    t.dre.openValve = false ∧ t.dre.closeValve = false ∧ t.dre.claimInQueue = false ∧
    t.dre.releasePending = false ∧ t.dre.ownHangup = false ∧ t.dre.unannounced = 0 ∧ t.dre.queued = 0 ∧
    t.dre.flowWatch = 0 ∧ t.dre.lastOutcome = .none ∧
    (∀ ch ∈ t.fca.channels, ch.mode = 0 ∧ ch.x = 0 ∧ ch.y = 0 ∧ ch.binding = 0 ∧ ch.ready = false ∧
      ch.fault = false ∧ ch.level = none ∧ ch.capture = none ∧ ch.average = none ∧ ch.remainder = 0) ∧
    t.fca.sightingCount = 255 ∧ t.conditions = 0 ∧ t.grade = 0 ∧
    t.settings.planLength = 0 ∧ t.settings.levels = 0 ∧ t.settings.cushion = none ∧
    t.settings.tipReservation = 60 ∧ t.settings.leaseLength = 48 ∧ t.settings.waitLimit = 96 ∧
    t.settings.dropThreshold = 3 ∧ t.settings.freezeLimit = 96 ∧ t.settings.tolerance = 100 ∧
    t.settings.founding = 0 ∧ t.settings.flowTimeout = 40 ∧ t.settings.strokeTime = 8000 ∧
    t.settings.hostInterval = 0 ∧ t.settings.sightingSource = 0 ∧ t.settings.sightingInterval = 24 ∧
    (∀ c ∈ t.settings.chokes, c = none) ∧
    t.lpt.notices = 0 ∧ t.lpt.mask = 0 ∧ t.lpt.countdown = 0 ∧ t.lpt.holdRequest = false ∧
    t.lpt.access = .idle ∧ t.lpt.accessClaim = false ∧ t.lpt.configDigest = none ∧ t.stl.loaded = false ∧
    t.strapValid = false) ∧
  ∀ s : State, s.stl.loaded = true →
    (∃ t, exec .enterConfig s = .next t ∧ s.restartedFrom .offline t) ∧
    (s.rsc.link ≠ .offline → ∃ t, exec .restart s = .next t ∧ s.restartedFrom .listen t) ∧
    (s.rsc.link = .offline → ∃ t, exec .restart s = .next t ∧ t.lpt.answer = some .configOnly)

/-- R67, R80, R84, R130, R145, R151, R169, R173, R174. What each of the 28 checks tests: check 0 the strap word, checks 1 to 11 the round plan, checks 12 to 27 the other items. CONFIG-DONE in OFFLINE answers with the number of the first check that fails, and then changes nothing else; when every check passes it fixes the config digest, sets the countdown, takes the gate of a CHUTE station from its shut limit and enters LISTEN. That the bid of LISTEN is a new one (log 15) and that the gate reads the shut limit's level as it stands at CONFIG-DONE (log 37) are the model's readings. -/
def Obligations.ConfigDoneChecksThenListens : Prop :=
  (∀ (s : State) (c : Settings) (passes : Nat → Prop), s.settings = c →
    (∀ n, passes n ↔ (configChecks s)[n]? = some true) →
    (configChecks s).length = 28 ∧
    (∀ n, n < 11 → (configChecks s)[n + 1]? = (planChecks c s.station)[n]?) ∧
    (passes 0 ↔ s.stl.loaded = true ∧ 1 ≤ s.station ∧ s.station ≤ 12 ∧ s.rank ≤ 4 ∧
      (s.role = .tip ∨ s.role = .breaker → 1 ≤ s.place ∧ s.place ≤ 6) ∧
      (s.role = .chute → s.place = 1 ∨ s.place = 2)) ∧
    (passes 12 ↔ 1 ≤ c.levels.toNat ∧ c.levels.toNat ≤ 6) ∧
    (passes 13 ↔ ∀ k, k < c.levels.toNat → ∃ v : Word16, c.chokes.getD k none = some v ∧ 1 ≤ v.toNat ∧
      (1 ≤ k → c.choke k < v.toNat)) ∧
    (passes 14 ↔ ∃ v : Word16, c.cushion = some v ∧ v.toNat < c.choke 1) ∧
    (passes 15 ↔ 1 ≤ c.tipReservation.toNat ∧ c.tipReservation.toNat ≤ 4095) ∧
    (passes 16 ↔ 8 ≤ c.leaseLength.toNat) ∧ (passes 17 ↔ 1 ≤ c.waitLimit.toNat) ∧
    (passes 18 ↔ 1 ≤ c.dropThreshold.toNat ∧ c.dropThreshold.toNat ≤ 7) ∧
    (passes 19 ↔ 48 ≤ c.freezeLimit.toNat) ∧
    (passes 20 ↔ (s.role = .tip ∨ s.role = .breaker → s.place ≤ c.levels.toNat)) ∧
    (passes 21 ↔ 1 ≤ c.flowTimeout.toNat ∧ 100 ≤ c.strokeTime.toNat ∧ c.strokeTime.toNat ≤ 30000 ∧
      1 ≤ c.sightingInterval.toNat) ∧
    (passes 22 ↔ ∀ ch ∈ s.fca.channels,
      ch.mode = 0 ∨
      (ch.mode = 1 ∧ ch.x.toNat ≤ 255 ∧ ch.y.toNat ≤ 1) ∨
      (ch.mode = 2 ∧ 1 ≤ ch.x.toNat ∧ ch.x.toNat ≤ 255 ∧ ch.y.toNat ≤ 1) ∨
      (ch.mode = 3 ∧ 1 ≤ ch.x.toNat ∧ ch.y.toNat ≤ 2) ∨
      (ch.mode = 4 ∧ ch.y.toNat ≤ 2) ∨
      (ch.mode = 5 ∧ 1 ≤ ch.x.toNat ∧ 1 ≤ ch.y.toNat ∧ ch.y.toNat ≤ 8)) ∧
    (passes 23 ↔ ∀ ch ∈ s.fca.channels, ch.binding ≠ 0 →
      ∃ f m, funcOfCode ch.binding.toNat = some f ∧ modeOfCode ch.mode.toNat = m ∧ ch.mode.toNat ≤ 5 ∧
        ((m = .lineIn ∧ (f = .holdLine ∨ f = .gateOpenLimit ∨ f = .gateShutLimit)) ∨
          (m = .lineOut ∧
            (f = .gateOpenValve ∨ f = .gateCloseValve ∨ f = .permitLamp ∨ f = .hammerEnable)) ∨
          (m = .countIn ∧ f = .beltScale) ∨ (m = .captureIn ∧ f = .flowSensor) ∨
          (m = .widthIn ∧ f = .levelGauge))) ∧
    (passes 24 ↔ ((s.fca.channels.map Channel.binding).filter fun b => b ≠ 0).Nodup) ∧
    (passes 25 ↔ ∀ ch ∈ s.fca.channels, ch.binding ≠ 0 → ∃ f, funcOfCode ch.binding.toNat = some f ∧
      (f = .holdLine ∨ (f = .permitLamp ∧ s.role = .tip) ∨ (f = .hammerEnable ∧ s.role = .breaker) ∨
        (f = .levelGauge ∧ s.role = .monitor) ∨
        (s.role = .chute ∧
          (f = .gateOpenValve ∨ f = .gateCloseValve ∨ f = .gateOpenLimit ∨ f = .gateShutLimit ∨
            f = .beltScale ∨ f = .flowSensor)))) ∧
    (passes 26 ↔ ∀ f : Func,
      ((f = .permitLamp ∧ s.role = .tip) ∨ (f = .hammerEnable ∧ s.role = .breaker) ∨
        (f = .levelGauge ∧ s.role = .monitor ∧ c.sightingSource = 1) ∨
        (s.role = .chute ∧
          (f = .gateOpenValve ∨ f = .gateCloseValve ∨ f = .gateOpenLimit ∨ f = .gateShutLimit ∨
            f = .beltScale ∨ f = .flowSensor))) →
      ∃ ch ∈ s.fca.channels, ch.binding.toNat = funcCode f) ∧
    (passes 27 ↔ c.sightingSource = 0 ∨ (c.sightingSource = 1 ∧ s.role = .monitor))) ∧
  ∀ s : State, s.stl.loaded = true →
    ∃ t, exec .configDone s = .next t ∧
      (s.rsc.link ≠ .offline → t = { s with lpt := { s.lpt with answer := some .runOnly, readData := [] } }) ∧
      (∀ n, s.rsc.link = .offline → (configChecks s)[n]? = some false →
        (∀ m, m < n → (configChecks s)[m]? = some true) →
        t = { s with lpt := { s.lpt with answer := some (.checkFailed n), readData := [] } }) ∧
      (s.rsc.link = .offline → (∀ b ∈ configChecks s, b = true) →
        t.lpt.answer = some .taken ∧ t.lpt.configDigest = some s.settings.digest ∧
        t.lpt.countdown = s.settings.hostInterval.toNat ∧ t.notice .state = true ∧
        t.rsc = { s.rsc with
          link := .listen, roundTime := 0, span := .unopened, abandoned := false, holdSeen := false
          silentSpans := 0, joiningCount := 0, bidDone := false } ∧
        t.settings = s.settings ∧ t.record = s.record ∧ t.agu = s.agu ∧ t.stl = s.stl ∧
        (s.dre.current = none → s.role = .chute →
          t.dre.gate = if s.asserted .gateShutLimit = true then .shut else .closing))

/-- R155, R172, R177. CONFIG-WRITE takes effect in OFFLINE on an item that exists, which reads back with its low bits while every other item reads as before; CONFIG-READ returns the written flag and the value. Any other write or read is refused. The plan length is tested on the whole 32-bit value (log 24). -/
def Obligations.ConfigItemsReadBackAsWritten : Prop :=
  ∀ (s : State) (item index : Byte), s.stl.loaded = true → s.shaped →
    (∀ v : BitVec 32, ∃ t, exec (.configWrite item index v) s = .next t ∧
      (s.rsc.link ≠ .offline → t.lpt.answer = some .runOnly) ∧
      (s.rsc.link = .offline →
        (itemWidth item.toNat index.toNat = none ∨ (item = 1 ∧ 40 < v.toNat) → t.lpt.answer = some .badArg) ∧
        (∀ w, itemWidth item.toNat index.toNat = some w → ¬(item = 1 ∧ 40 < v.toNat) →
          t.lpt.answer = some .taken ∧
          readItem item.toNat index.toNat t = .written ((v.setWidth w).setWidth 32) ∧
          (∀ i j, i ≠ item.toNat → readItem i j t = readItem i j s) ∧
          (∀ j, j ≠ index.toNat → item = 0x02 ∨ item = 0x04 ∨ (0x20 ≤ item.toNat ∧ item.toNat ≤ 0x23) →
            readItem item.toNat j t = readItem item.toNat j s) ∧
          t.record = s.record ∧ t.rsc = s.rsc ∧ t.lkc = s.lkc ∧ t.agu = s.agu ∧ t.conditions = s.conditions ∧
          (item = 0x20 ∨ item = 0x21 ∨ item = 0x22 ∨ item = 0x23 →
            (t.channel index.toNat).ready = false ∧ (t.channel index.toNat).level = none ∧
            (t.channel index.toNat).fault = false ∧ (t.channel index.toNat).remainder = 0)))) ∧
    ∃ t, exec (.configRead item index) s = .next t ∧ t.settings = s.settings ∧ t.rsc = s.rsc ∧ t.record = s.record ∧
      (readItem item.toNat index.toNat s = .noItem → t.lpt.answer = some .badArg) ∧
      (∀ v : BitVec 32, readItem item.toNat index.toNat s = .written v →
        t.lpt.answer = some .taken ∧
        t.lpt.readData = [1, v.extractLsb' 24 8, v.extractLsb' 16 8, v.extractLsb' 8 8, v.extractLsb' 0 8]) ∧
      (readItem item.toNat index.toNat s = .unwritten →
        t.lpt.answer = some .taken ∧ ∃ a b c d, t.lpt.readData = [0, a, b, c, d])

/-- R94, R157, R163, R165, R168, R169, R177. The requests by their code bytes and arguments, most significant byte first; every request has its code, and any other code names none. The code byte services the countdown and ends HOST-SILENT; that no answer stands until the request and that an unknown code is answered at once is the model's reading (log 10); the hold requests, CLEAR-NOTICES and SET-MASK set what they name and nothing else; the interrupt line follows notices and mask; FAULT-CLEAR ends PEER-LOSS and SIGHT-JUMP, and ACTUATOR where neither of its causes stands. -/
def Obligations.PortServicesTheStation : Prop :=
  ((∀ a b c d e f : Byte,
      requestOf 0x01 [a, b, c, d, e, f] = some (.configWrite a b (c ++ d ++ e ++ f)) ∧
      requestOf 0x02 [a, b] = some (.configRead a b) ∧ requestOf 0x11 [a, b, c, d, e] = some (.tipEnd (a ++ b) (c ++ d) e) ∧
      requestOf 0x15 [a, b, c] = some (.breakEnd (a ++ b) c) ∧ requestOf 0x18 [a, b, c] = some (.drawQueue a (b ++ c)) ∧
      requestOf 0x1D [a, b] = some (.sight (a ++ b)) ∧ requestOf 0x21 [a] = some (.readLot a) ∧
      requestOf 0x22 [a] = some (.readClaim a) ∧ requestOf 0x23 [a] = some (.readWait a) ∧
      requestOf 0x28 [a] = some (.readChannelKeep a) ∧ requestOf 0x29 [a] = some (.readChannelTake a) ∧
      requestOf 0x2A [a] = some (.ackChannel a) ∧ requestOf 0x2B [a, b] = some (.setOutput a b) ∧
      requestOf 0x2C [a, b] = some (.clearNotices (a ++ b)) ∧ requestOf 0x2D [a, b] = some (.setMask (a ++ b))) ∧
    (∀ i code, (i, code) ∈ [(Instr.configDone, (0x03 : Byte)), (.enterConfig, 0x04), (.restart, 0x08),
        (.faultClear, 0x09), (.holdSet, 0x0A), (.holdClear, 0x0B), (.tipBegin, 0x10), (.tipAbandon, 0x12),
        (.breakBegin, 0x14), (.breakAbandon, 0x16), (.drawStop, 0x19), (.gateReset, 0x1A), (.unhang, 0x1C),
        (.accessBegin, 0x1E), (.accessEnd, 0x1F), (.readStatus, 0x20), (.readStrap, 0x24),
        (.readConditions, 0x25), (.readNotices, 0x26)] →
      requestOf code [] = some i) ∧
    (∀ i : Instr, i.isRequest = true ↔ ∃ code args, requestOf code args = some i) ∧
    ∀ code : Byte, codeNamesRequest code.toNat = true ↔ ∃ args i, requestOf code args = some i) ∧
  (∀ (s : State) (code : Byte), ∃ t, exec (.requestCodeByte code) s = .next t ∧
    t.lpt.countdown = s.settings.hostInterval.toNat ∧ t.active .hostSilent = false ∧
    (∀ c, c ≠ .hostSilent → t.active c = s.active c) ∧ t.record = s.record ∧ t.lkc = s.lkc ∧ t.rsc = s.rsc ∧
    t.agu = s.agu ∧ t.lpt.readData = [] ∧
    t.lpt.answer =
      (if code.toNat ∈ [1, 2, 3, 4, 8, 9, 10, 11, 16, 17, 18, 20, 21, 22, 24, 25, 26, 28, 29, 30, 31, 32, 33, 34,
          35, 36, 37, 38, 40, 41, 42, 43, 44, 45] then none
       else if s.stl.loaded = true then some .unknown else some .busy)) ∧
  (∀ s : State, s.holdFlag = true ↔ s.holdLine = true ∨ s.lpt.holdRequest = true) ∧
  (∀ s : State, s.irq = true ↔ ∃ n : Notice, s.notice n = true ∧ s.lpt.mask.getLsbD (noticeBit n) = true) ∧
  ∀ s : State, s.stl.loaded = true →
    exec .holdSet s =
      .next { s with lpt := { s.lpt with holdRequest := true, answer := some .taken, readData := [] } } ∧
    exec .holdClear s =
      .next { s with lpt := { s.lpt with holdRequest := false, answer := some .taken, readData := [] } } ∧
    (∀ set : Word16, exec (.setMask set) s =
      .next { s with lpt := { s.lpt with mask := set, answer := some .taken, readData := [] } }) ∧
    (∀ set : Word16, exec (.clearNotices set) s =
      .next { s with lpt := { s.lpt with
        notices := s.lpt.notices &&& ~~~set, answer := some .taken, readData := [] } }) ∧
    ∃ t, exec .faultClear s = .next t ∧ t.lpt.answer = some .taken ∧ t.record = s.record ∧ t.rsc = s.rsc ∧
      t.lkc = s.lkc ∧ t.agu = s.agu ∧ t.settings = s.settings ∧ t.active .peerLoss = false ∧ t.active .sightJump = false ∧
      (s.dre.gate = .stuck ∨ s.boundFault = true → t.active .actuator = s.active .actuator) ∧
      (s.dre.gate ≠ .stuck → s.boundFault = false → t.active .actuator = false) ∧
      (∀ c, c ≠ .peerLoss → c ≠ .sightJump → c ≠ .actuator → t.active c = s.active c) ∧
      (s.conditions = t.conditions → t.notice .grade = s.notice .grade) ∧
      (s.conditions ≠ t.conditions → t.notice .grade = true)

/-- R26, R49, R66, R82, R98, R114, R129, R144, R164, R168, R174, R177. The reads: outside IN-STEP the record reads answer NO-RECORD, beyond their lists BAD-ARG; the data are the items in their layouts; nothing but the answer changes. READ-STATUS returns its 75 bytes in the layout of R177, the record items only of a record that may be read (IN-STEP) or as zeros where none is held; the bits that the layout fixes at 0 are 0 in every case. SDO carries the answer code, then the read data, then zeros, and nothing is said of it while no answer stands (log 10). The present set of a station strapped with number 0 or 13–15, which stays in OFFLINE, has no bit for it (the model's choice, log 50). -/
def Obligations.ReadsReturnTheirItems : Prop :=
  (∀ (s : State) (n : Nat),
    (s.lpt.answer = none → s.portByte n = none) ∧
    ∀ a, s.lpt.answer = some a →
      s.portByte n = some (if n = 0 then BitVec.ofNat 8 (answerCode a) else s.lpt.readData.getD (n - 1) 0)) ∧
  (∀ a n, (a, n) ∈ [(Answer.taken, 0), (.busy, 1), (.full, 2), (.role, 3), (.notInStep, 4), (.degraded, 5),
      (.held, 6), (.badArg, 7), (.configOnly, 8), (.runOnly, 9), (.bound, 10), (.noRecord, 11), (.unknown, 12)] →
    answerCode a = n ∧ ∀ check, answerCode (.checkFailed check) = 64 + check) ∧
  ∀ s : State, s.stl.loaded = true →
    (∀ i r, (i, r) ∈ [
        (fun (b : Byte) => Instr.readLot b, fun (b : Byte) (r : Record) =>
          (r.column.lots[b.toNat]?).map fun l =>
            [(16, l.number), (2, kindCode l.kind), (3, l.source), (3, l.gradeClass), (16, l.tonnes),
             (1, l.held.isSome.toNat), (3, 0), (12, l.held.getD 0)]),
        (fun b => Instr.readClaim b, fun b r =>
          (rowOfCode b.toNat).map fun row =>
            match (if rowLevel row ≤ s.settings.levelCount then r.table.get row else none) with
            | none => [(32, 0)]
            | some g => [(4, g.holder), (4, purposeCode g.purpose), (8, g.lease), (16, g.reservation)]),
        (fun b => Instr.readWait b, fun b r =>
          (r.queue[b.toNat]?).map fun e =>
            [(4, e.station), (4, rowCode e.row), (4, purposeCode e.purpose), (12, e.reservation), (8, e.age)])] →
      ∀ b : Byte,
        (s.rsc.link ≠ .inStep ∨ s.record = none →
          exec (i b) s = .next { s with lpt := { s.lpt with answer := some .noRecord, readData := [] } }) ∧
        (∀ record, s.rsc.link = .inStep → s.record = some record →
          (r b record = none →
            exec (i b) s = .next { s with lpt := { s.lpt with answer := some .badArg, readData := [] } }) ∧
          (∀ fields, r b record = some fields →
            exec (i b) s =
              .next { s with lpt := { s.lpt with answer := some .taken, readData := packBytes fields } }))) ∧
    exec .readStrap s = .next { s with lpt := { s.lpt with
      answer := some .taken, readData := packBytes [(16, s.stl.word.toNat), (8, s.strapValid.toNat)] } } ∧
    exec .readConditions s = .next { s with lpt := { s.lpt with
      answer := some .taken, readData := packBytes [(8, s.grade), (16, s.conditions.toNat)] } } ∧
    exec .readNotices s = .next { s with lpt := { s.lpt with
      answer := some .taken, readData := packBytes [(16, s.lpt.notices.toNat), (16, s.lpt.mask.toNat)] } } ∧
    ∃ t, exec .readStatus s = .next t ∧ t.lpt.answer = some .taken ∧ t.lpt.readData.length = 75 ∧
      t = { s with freeCount := t.freeCount, lpt := { s.lpt with answer := some .taken, readData := t.lpt.readData } } ∧
      t.lpt.readData.take 21 = packBytes
        ([(3, linkCode s.rsc.link), (2, s.grade), (1, s.holdFlag.toNat), (1, s.lpt.holdRequest.toNat),
          (1, s.holdLine.toNat), (1, (decide (s.rsc.link = .inStep) && s.record.isSome).toNat),
          (1, spanCode s.rsc.span), (1, s.rsc.paused.toNat), (1, s.rsc.abandoned.toNat), (2, s.rsc.joiningCount),
          (2, accessCode s.lpt.access), (8, s.rsc.roundNumber), (8, s.rsc.sequence), (16, s.stamp),
          (16, s.rsc.roundTime), (8, s.rsc.silentSpans), (16, s.presentSet.toNat)] ++
         ([1, 2, 3, 4, 5, 6, 7, 8, 9, 10, 11, 12].map fun k => (3, if s.isPeer k = true then s.missOf k else 0)) ++
         [(4, 0), (4, s.lkc.queue.length), (1, (queuedDraw s.lkc.queue).isSome.toNat), (3, s.lkc.ownFailures),
          (16, (queuedDraw s.lkc.queue).getD 0), (8, s.lkc.badFrames), (8, s.lkc.losses)]) ∧
      (t.lpt.readData.getD 31 0).getLsbD 6 = false ∧ (t.lpt.readData.getD 37 0) &&& 7 = 0 ∧
      (s.record = none → (t.lpt.readData.drop 21).take 17 = List.replicate 17 0) ∧
      (∀ r, s.rsc.link = .inStep → s.record = some r →
        (t.lpt.readData.drop 21).take 17 = packBytes
          ([(8, r.column.lots.length), (24, r.column.total)] ++ columnFlags r ++
           [(16, r.column.overdraw), (24, r.effectiveCushion s.settings),
            (1, (r.choked s.settings s.settings.levelCount).toNat), (1, 0),
            (1, (r.choked s.settings 6).toNat), (1, (r.choked s.settings 5).toNat),
            (1, (r.choked s.settings 4).toNat), (1, (r.choked s.settings 3).toNat),
            (1, (r.choked s.settings 2).toNat), (1, (r.choked s.settings 1).toNat)] ++
           hangUpFields r ++ r.ownClaim s.station)) ∧
      (∀ f, f = (if s.rsc.link = .catchup then s.agu.view else s.agu.tracker) →
        (t.lpt.readData.drop 38).take 13 = packBytes
          [(16, s.agu.digest.toNat), (16, s.agu.majority.toNat), (8, s.agu.compared), (1, f.run.isSome.toNat),
           (3, receiverCode s.agu.receiver), (4, s.agu.failures), (8, (f.run.map FreezeRun.provider).getD 0),
           (16, (f.run.map fun r => r.receivers.toNat).getD 0), (8, (f.run.map FreezeRun.remaining).getD 0),
           (8, f.imageId), (8, s.agu.store.length), (8, (storeTotal s.agu.store).getD 0)]) ∧
      (t.lpt.readData.drop 51).take 7 = packBytes
        ([(2, sequencerCode s.tbs.state), (1, s.tbs.claimInQueue.toNat), (3, closingCode s.tbs.closing),
          (1, s.tbs.output.toNat), (1, s.tbs.pendingEnd.isSome.toNat), (8, resultCode s.tbs.lastResult)] ++
         match s.tbs.pendingEnd with
         | none => [(40, 0)]
         | some (.tip tonnes held grade) => [(16, tonnes), (16, held), (8, grade)]
         | some (.brk passed cleared) => [(16, passed), (8, cleared.toNat), (16, 0)]) ∧
      t.lpt.readData.drop 58 = packBytes
        [(3, engineCode s.dre.state), (3, gateCode s.dre.gate), (1, s.dre.claimInQueue.toNat),
         (1, s.dre.releasePending.toNat), (1, s.dre.ownHangup.toNat), (3, outcomeCode s.dre.lastOutcome),
         (2, orderKindCode s.dre.current), (2, orderKindCode s.dre.next), (16, s.dre.strokeCount),
         (16, (orderAmounts s.dre.current).1), (16, (orderAmounts s.dre.current).2),
         (16, (orderAmounts s.dre.next).1), (16, (orderAmounts s.dre.next).2), (16, s.dre.unannounced),
         (16, s.dre.queued), (8, s.dre.flowWatch)]

/-- R150, R153. The host's channel requests by their answers, and the readback of an output: a sensed level that differs for more than X ticks sets the fault flag, with CHANNEL, and on a bound channel raises ACTUATOR; agreement clears the flag and leaves ACTUATOR. A field tick on an empty queue counts the one tick; READBACK_FAULT brings a run of ticks with it (log 21). A binding code other than 0 makes a channel a bound one, also a code that names no function of its mode, which only OFFLINE can hold (the model's choice, log 41). -/
def Obligations.ChannelRequestsAndReadback : Prop :=
  ∀ s : State, s.shaped →
    (∀ channel : Byte, s.stl.loaded = true →
      (∃ t, exec (.readChannelKeep channel) s = .next t ∧
        (7 < channel.toNat → t.lpt.answer = some .badArg) ∧
        (channel.toNat ≤ 7 → t = { s with lpt := { s.lpt with
          answer := some .taken
          readData := (s.channel channel.toNat).bytes (s.channel channel.toNat).readingFields } })) ∧
      (∃ t, exec (.readChannelTake channel) s = .next t ∧
        (7 < channel.toNat → t.lpt.answer = some .badArg) ∧
        (channel.toNat ≤ 7 → (s.channel channel.toNat).binding ≠ 0 → t.lpt.answer = some .bound) ∧
        (channel.toNat ≤ 7 → (s.channel channel.toNat).binding = 0 →
          t.lpt.answer = some .taken ∧
          ((s.channel channel.toNat).ready = true →
            t.channel channel.toNat = (s.channel channel.toNat).taken ∧
            t.lpt.readData = (s.channel channel.toNat).bytes (s.channel channel.toNat).readingFields) ∧
          ((s.channel channel.toNat).ready = false → t.fca = s.fca) ∧
          (∀ j, j ≠ channel.toNat → t.channel j = s.channel j))) ∧
      (∃ t, exec (.ackChannel channel) s = .next t ∧
        (7 < channel.toNat → t.lpt.answer = some .badArg) ∧
        (channel.toNat ≤ 7 → (s.channel channel.toNat).binding ≠ 0 → t.lpt.answer = some .bound) ∧
        (channel.toNat ≤ 7 → (s.channel channel.toNat).binding = 0 →
          t.lpt.answer = some .taken ∧ t.lpt.readData = [] ∧
          ((s.channel channel.toNat).ready = true →
            t.channel channel.toNat = (s.channel channel.toNat).taken) ∧
          ((s.channel channel.toNat).ready = false → t.fca = s.fca) ∧
          (∀ j, j ≠ channel.toNat → t.channel j = s.channel j))) ∧
      ∀ level : Byte, ∃ t a, exec (.setOutput channel level) s = .next t ∧ t.lpt.answer = some a ∧
        a = (if 7 < channel.toNat then Answer.badArg else if (s.channel channel.toNat).binding ≠ 0 then .bound
          else if (s.channel channel.toNat).modeIs .lineOut = false ∨ 1 < level.toNat then .badArg
          else if s.rsc.link = .halted then .notInStep else .taken) ∧
        (a = .taken →
          (t.channel channel.toNat).commanded = decide (level = 1) ∧
          ((s.channel channel.toNat).commanded ≠ decide (level = 1) →
            (t.channel channel.toNat).graceCount = 0 ∧ (t.channel channel.toNat).pin = (t.channel channel.toNat).driven) ∧
          (∀ j, j ≠ channel.toNat → t.channel j = s.channel j))) ∧
    (∀ (i : Fin 8) (ch : Channel), s.channel i.val = ch → ch.modeIs .lineOut = true →
      (ch.pin = ch.driven →
        (channelTick i.val s).channel i.val = { ch with graceCount := 0, fault := false, fresh := false } ∧
        (channelTick i.val s).conditions = s.conditions ∧
        (ch.fault = true → (channelTick i.val s).notice .channel = true)) ∧
      (ch.pin ≠ ch.driven → ch.graceCount + 1 ≤ ch.x.toNat →
        (channelTick i.val s).channel i.val = { ch with graceCount := ch.graceCount + 1, fresh := false } ∧
        (channelTick i.val s).conditions = s.conditions) ∧
      (ch.pin ≠ ch.driven → ch.x.toNat < ch.graceCount + 1 →
        (channelTick i.val s).channel i.val =
          { ch with graceCount := ch.graceCount + 1, fault := true, fresh := false } ∧
        (ch.fault = false → (channelTick i.val s).notice .channel = true ∧
          (ch.binding ≠ 0 → (channelTick i.val s).active .actuator = true)) ∧
        (ch.fault = true ∨ ch.binding = 0 → (channelTick i.val s).conditions = s.conditions)) ∧
      ∀ j, j ≠ i.val → (channelTick i.val s).channel j = s.channel j) ∧
    ∀ i : Fin 8, (s.channel i.val).modeIs .lineOut = true →
      (∀ ticks, 1 ≤ ticks → ∃ t, exec (.readbackFault i ticks) s = .next t ∧ s.besideChannel i.val t ∧ s.sameConditions t [.actuator] ∧
        ((s.channel i.val).x.toNat < ticks →
          (t.channel i.val).fault = true ∧
          ((s.channel i.val).fault = false → t.notice .channel = true ∧
            ((s.channel i.val).binding ≠ 0 → t.active .actuator = true)) ∧
          ((s.channel i.val).binding = 0 → t.active .actuator = s.active .actuator)) ∧
        (ticks ≤ (s.channel i.val).x.toNat →
          (t.channel i.val).fault = (s.channel i.val).fault ∧ t.active .actuator = s.active .actuator)) ∧
      ∃ t, exec (.readbackAgree i) s = .next t ∧ (t.channel i.val).fault = false ∧ t.conditions = s.conditions ∧
        s.besideChannel i.val t ∧ ((s.channel i.val).fault = true → t.notice .channel = true)

/-- R145, R146, R147, R148, R149, R152, R153, R154. What an event at the pin makes of an input channel: debounced level, pulses and tonnes, capture, average; a LOCAL channel's new ready flag sets CHANNEL, a bound function takes its reading. An edge or pulse that comes before the first field tick after the mode was set changes nothing but the pin, and that tick takes a LINE-IN level without debounce; every field tick samples a LINE-IN pin. The commands say whether the tick has come (log 21). A LINE-IN channel of a binding code that names no function of the mode, which only OFFLINE can hold, sets no ready as a bound one does (the model's choice, log 41). -/
def Obligations.InputChannelsCondition : Prop :=
  ∀ (s : State) (i : Fin 8) (ch : Channel), s.shaped → s.channel i.val = ch →
    (∀ high ticks, ch.modeIs .lineIn = true → 1 ≤ ticks →
      ∃ t, exec (.debouncedLevelChange i high ticks) s = .next t ∧ t.conditions = s.conditions ∧
        s.besideChannel i.val t ∧ t.lkc = s.lkc ∧
        (ch.level = none ∨ ch.fresh = true →
          t.channel i.val = { ch with pin := high, run := 0, level := some high, fresh := false }) ∧
        (ch.level = some high → ch.fresh = false → t.channel i.val = { ch with pin := high, run := 0 }) ∧
        (ch.level = some (!high) → ch.fresh = false → ticks < ch.x.toNat →
          t.channel i.val = { ch with pin := high, run := ticks }) ∧
        (ch.level = some (!high) → ch.fresh = false → ch.x.toNat ≤ ticks →
          (ch.binding = 0 →
            t.channel i.val = { ch with pin := high, run := 0, level := some high, ready := true } ∧
            (ch.ready = false → t.notice .channel = true)) ∧
          (ch.binding ≠ 0 → t.channel i.val = { ch with pin := high, run := 0, level := some high }))) ∧
    (ch.modeIs .lineIn = true →
      (ch.level = none ∨ ch.fresh = true →
        (channelTick i.val s).channel i.val = { ch with run := 0, level := some ch.pin, fresh := false }) ∧
      (ch.level = some ch.pin → ch.fresh = false → (channelTick i.val s).channel i.val = { ch with run := 0 }) ∧
      (ch.level = some (!ch.pin) → ch.fresh = false →
        (ch.run + 1 < ch.x.toNat → (channelTick i.val s).channel i.val = { ch with run := ch.run + 1 }) ∧
        (ch.x.toNat ≤ ch.run + 1 →
          (channelTick i.val s).channel i.val =
            { ch with run := 0, level := some ch.pin, ready := ch.ready || decide (ch.binding = 0) }))) ∧
    (ch.modeIs .lineIn = false → ch.modeIs .lineOut = false →
      (channelTick i.val s).channel i.val = { ch with fresh := false }) ∧
    (ch.fresh = true → ∀ rising width,
      (ch.modeIs .countIn = true →
        ∃ t, exec (.countInEdge i rising false) s = .next t ∧ t.channel i.val = { ch with pin := rising } ∧
          s.besideChannel i.val t ∧ t.lkc = s.lkc ∧ t.conditions = s.conditions) ∧
      (ch.modeIs .captureIn = true →
        ∃ t, exec (.captureInEdge i rising false) s = .next t ∧ t.channel i.val = { ch with pin := rising } ∧
          s.besideChannel i.val t ∧ t.lkc = s.lkc ∧ t.conditions = s.conditions) ∧
      (ch.modeIs .widthIn = true →
        ∃ t, exec (.widthInPulse i width false) s = .next t ∧ t.channel i.val = { ch with pin := false } ∧
          s.besideChannel i.val t ∧ t.lkc = s.lkc ∧ t.conditions = s.conditions)) ∧
    (∀ rising ticked, ch.modeIs .countIn = true → 1 ≤ ch.x.toNat → ch.y.toNat ≤ 2 →
      ticked = true ∨ ch.fresh = false →
      ∃ t whole remainder, exec (.countInEdge i rising ticked) s = .next t ∧ t.conditions = s.conditions ∧
        s.besideChannel i.val t ∧ (ch.binding = 0 → t.lkc = s.lkc ∧ t.dre.unannounced = s.dre.unannounced) ∧
        (whole, remainder) =
          (if ch.remainder + 1 < ch.x.toNat then (ch.whole, ch.remainder + 1) else (min (ch.whole + 1) 65535, 0)) ∧
        (¬(ch.y = 2 ∨ (ch.y = 0 ∧ rising = true) ∨ (ch.y = 1 ∧ rising = false)) →
          t.channel i.val = { ch with pin := rising, fresh := false }) ∧
        (ch.y = 2 ∨ (ch.y = 0 ∧ rising = true) ∨ (ch.y = 1 ∧ rising = false) →
          (ch.binding = 0 →
            t.channel i.val = { ch with
              pin := rising, fresh := false, whole := whole, remainder := remainder, ready := ch.ready || decide (1 ≤ whole) } ∧
            (ch.ready = false → 1 ≤ whole → t.notice .channel = true)) ∧
          (ch.func = some .beltScale → s.rsc.link ≠ .offline → s.rsc.link ≠ .halted → 1 ≤ whole →
            (t.channel i.val).whole = 0 ∧ (t.channel i.val).remainder = remainder ∧
            t.dre.unannounced = min (s.dre.unannounced + whole) 65535))) ∧
    (∀ rising ticked, ch.modeIs .captureIn = true → ticked = true ∨ ch.fresh = false →
      (ch.y = 0 ∧ rising = false) ∨ (ch.y = 1 ∧ rising = true) →
      ∃ t, exec (.captureInEdge i rising ticked) s = .next t ∧ t.conditions = s.conditions ∧
        s.besideChannel i.val t ∧ t.lkc = s.lkc ∧ t.channel i.val = { ch with pin := rising, fresh := false }) ∧
    (∀ rising ticked, ch.modeIs .captureIn = true → ch.binding = 0 → ticked = true ∨ ch.fresh = false →
      ch.y = 2 ∨ (ch.y = 0 ∧ rising = true) ∨ (ch.y = 1 ∧ rising = false) →
      ∃ t, exec (.captureInEdge i rising ticked) s = .next t ∧ t.conditions = s.conditions ∧
        s.besideChannel i.val t ∧ t.lkc = s.lkc ∧
        (ch.ready = false →
          t.channel i.val = { ch with
            pin := rising, fresh := false, ready := true
            capture := some (if s.rsc.span = .inRound ∧ s.rsc.link ≠ .offline then
              .timed (s.rsc.sequence * 24 + s.rsc.roundNumber) s.rsc.roundTime else .noTime) } ∧
          t.notice .channel = true) ∧
        (ch.ready = true →
          t.channel i.val = { ch with pin := rising, fresh := false, ignored := min (ch.ignored + 1) 255 })) ∧
    ∀ width, ch.modeIs .widthIn = true → 1 ≤ ch.y.toNat → ch.y.toNat ≤ 8 →
      ∃ t sum, exec (.widthInPulse i width true) s = .next t ∧ t.conditions = s.conditions ∧
        s.besideChannel i.val t ∧ (ch.binding = 0 → t.lkc = s.lkc) ∧
        sum = ch.sum + min (min width 65535 * ch.x.toNat / 16) 65535 ∧
        (ch.pulses + 1 < ch.y.toNat →
          t.channel i.val = { ch with pin := false, fresh := false, sum := sum, pulses := ch.pulses + 1 }) ∧
        (ch.y.toNat ≤ ch.pulses + 1 →
          (ch.binding = 0 →
            t.channel i.val = { ch with
              pin := false, fresh := false, sum := 0, pulses := 0, average := some (sum / ch.y.toNat), ready := true }) ∧
          (ch.func = some .levelGauge → s.role = .monitor → s.settings.sightingSource = 1 →
            s.rsc.link = .inStep → s.columnNormal = true →
            s.settings.sightingInterval.toNat ≤ s.fca.sightingCount → s.sightingPending = false →
            eventCount s.lkc.queue < 8 →
            (t.channel i.val).average = some (sum / ch.y.toNat) ∧ (t.channel i.val).ready = false ∧
              t.lkc.queue = s.lkc.queue ++ [.sighting (sum / ch.y.toNat)]))

/-! ### Laws of the device that every step keeps -/

/-- R126, R134. The permit lamp or hammer enable is commanded exactly on its terms, and the open valve is on only on the terms of R134, after every step from a state in which that holds. -/
def Obligations.StepKeepsOutputsWithinTheirTerms : Prop :=
  ∀ s t : State, step s = .next t → s.outputLaw ∧ s.valveLaw → t.outputLaw ∧ t.valveLaw

/-- R3, R4, R5, R31, R32. The counting laws of the record, the laws of its lots, the uniqueness and range of its lot numbers, and the laws of its claim table and wait queue are kept by every step. -/
def Obligations.StepKeepsTheLawsOfTheRecord : Prop :=
  ∀ s t : State, step s = .next t →
    s.recordHas (fun r => r.counts ∧ r.numbered ∧ r.claimsLawful ∧ r.entriesFit) →
    t.recordHas (fun r => r.counts ∧ r.numbered ∧ r.claimsLawful ∧ r.entriesFit)

/-- R2, R50, R60, R61, R83, R90, R107, R130, R161. The transmit queue's law, HALTED at grade G3, silence in OFFLINE and HALTED, what the link state says of record, receiver and freeze, the order buffer's law, and the lengths of the lists are kept by every step. -/
def Obligations.StepKeepsQueueLinkAndOrderLaws : Prop :=
  ∀ s t : State, step s = .next t →
    (s.queueLaw → t.queueLaw) ∧ (s.gradeLaw ∧ s.silenceLaw → t.gradeLaw ∧ t.silenceLaw) ∧
    (s.linkLaw → t.linkLaw) ∧ (s.orderLaw → t.orderLaw) ∧ (s.shaped → t.shaped)

/-- R47, R90, R102, R113. While the freeze tracker of an IN-STEP station shows frozen its record stays, and a HALTED station keeps its record and its catch-up state and stays HALTED, whatever the step, but for the reset line, RESTART and ENTER-CONFIG. -/
def Obligations.FrozenAndHaltedRecordsStay : Prop :=
  (∀ s t : State, step s = .next t → s.rsc.link = .inStep → s.frozen = true →
    t.rsc.link = .inStep → t.frozen = true → t.record = s.record) ∧
  ∀ s t : State, step s = .next t → s.rsc.link = .halted →
    (∀ c ∈ s.pending.head?, c ≠ .resetLine ∧ c ≠ .restart ∧ c ≠ .enterConfig) →
    t.rsc.link = .halted ∧ t.record = s.record ∧
      t.agu = { s.agu with inStepBefore := t.agu.inStepBefore }

/-- The laws above hold of the machine right after reset. -/
def Obligations.LawsHoldAfterReset : Prop :=
  State.reset.outputLaw ∧ State.reset.valveLaw ∧
  State.reset.recordHas (fun r => r.counts ∧ r.numbered ∧ r.claimsLawful ∧ r.entriesFit) ∧
  State.reset.queueLaw ∧ State.reset.gradeLaw ∧ State.reset.silenceLaw ∧ State.reset.linkLaw ∧
  State.reset.orderLaw ∧ State.reset.shaped
end

