-- ==== Sys2Proof/Laws/State.lean ====
section
/-! SUPPORT. What each named update of a field writes, one lemma per field, and the general facts every frame proof uses. What an update leaves as it was stands in the frame lemmas of the files that follow. -/

namespace Sys2Proof.Machine

/-- A fold keeps what each of its steps keeps. -/
theorem foldl_keeps {α β : Type} (p : State → β) (f : State → α → State) (h : ∀ s x, p (f s x) = p s)
    (l : List α) (s : State) : p (l.foldl f s) = p s := by
  induction l generalizing s with
  | nil => rfl
  | cons x xs ih => rw [List.foldl_cons, ih, h]

/-! ### Notices and conditions -/

@[simp] theorem setNotice_notices (n : Notice) (s : State) :
    (setNotice n s).lpt.notices = s.lpt.notices ||| BitVec.twoPow 16 (noticeBit n) := rfl

@[simp] theorem setNoticeIf_true (n : Notice) (s : State) : setNoticeIf true n s = setNotice n s := rfl

@[simp] theorem setNoticeIf_false (n : Notice) (s : State) : setNoticeIf false n s = s := rfl

/-- A notice set stands (R168). -/
theorem setNotice_stands (n : Notice) (s : State) : (setNotice n s).notice n = true := by
  cases n <;> simp [State.notice, noticeBit]

/-- A notice set leaves every other notice as it stands (R168). -/
theorem setNotice_other (n m : Notice) (s : State) (h : m ≠ n) : (setNotice n s).notice m = s.notice m := by
  cases n <;> cases m <;> simp_all [State.notice, noticeBit]

/-- A condition already active is raised without a change (R156). -/
theorem setCondition_of_active (c : Condition) (s : State) (h : s.active c = true) : setCondition c s = s := by
  simp [setCondition, h]

/-- A condition not active is cleared without a change (R156). -/
theorem clearCondition_of_not_active (c : Condition) (s : State) (h : s.active c = false) :
    clearCondition c s = s := by simp [clearCondition, h]

/-! ### Link, queue and answers -/

@[simp] theorem setLink_link (l : LinkState) (s : State) : (setLink l s).rsc.link = l := by
  unfold setLink setNoticeIf; split <;> rfl

@[simp] theorem enqueue_queue (f : EventFrame) (s : State) : (enqueue f s).lkc.queue = s.lkc.queue ++ [f] := rfl

@[simp] theorem enqueue_losses (f : EventFrame) (s : State) : (enqueue f s).lkc.losses = s.lkc.losses := rfl

@[simp] theorem send_sending (x : Sending) (s : State) : (send x s).lkc.sending = some x := rfl

@[simp] theorem atMark_roundTime (m : Nat) (s : State) : (atMark m s).rsc.roundTime = m := rfl

@[simp] theorem answerWith_answer (a : Answer) (d : List Byte) (s : State) :
    (answerWith a d s).lpt.answer = some a := rfl

@[simp] theorem answerWith_readData (a : Answer) (d : List Byte) (s : State) :
    (answerWith a d s).lpt.readData = d := rfl

@[simp] theorem answer_answer (a : Answer) (s : State) : (answer a s).lpt.answer = some a := rfl

@[simp] theorem answer_readData (a : Answer) (s : State) : (answer a s).lpt.readData = [] := rfl

@[simp] theorem serviceHost_countdown (s : State) :
    (serviceHost s).lpt.countdown = s.settings.hostInterval.toNat := rfl

/-! ### Engine, gate, receiver and freeze -/

@[simp] theorem setEngine_state (e : EngineState) (s : State) : (setEngine e s).dre.state = e := rfl

@[simp] theorem setEngine_gate (e : EngineState) (s : State) : (setEngine e s).dre.gate = s.dre.gate := rfl

@[simp] theorem setGate_gate (g : GateState) (s : State) : (setGate g s).dre.gate = g := by
  unfold setGate setNoticeIf; split <;> rfl

@[simp] theorem setReceiver_receiver (r : ReceiverState) (s : State) : (setReceiver r s).agu.receiver = r := by
  unfold setReceiver setNoticeIf; split <;> rfl

@[simp] theorem setTracker_tracker (f : Freeze) (s : State) : (setTracker f s).agu.tracker = f := by
  unfold setTracker setNoticeIf; split <;> rfl

@[simp] theorem setView_view (f : Freeze) (s : State) : (setView f s).agu.view = f := by
  unfold setView setNoticeIf; split <;> rfl

@[simp] theorem emptyStore_store (s : State) : (emptyStore s).agu.store = [] := rfl

/-! ### The record -/

@[simp] theorem changeRecord_record (r : Record) (s : State) : (changeRecord r s).record = some r := by
  unfold changeRecord setNoticeIf; split <;> rfl

@[simp] theorem changeColumn_record (r : Record) (s : State) : (changeColumn r s).record = some r := by
  unfold changeColumn changeRecord setNoticeIf; split <;> (first | rfl | (split <;> rfl))

/-- A row written reads as written. -/
@[simp] theorem get_put (t : ClaimTable) (row : Row) (g : Option Grant) : (t.put row g).get row = g := by
  cases row <;> rfl

/-- A row written leaves every other row. -/
theorem get_put_other (t : ClaimTable) (row other : Row) (g : Option Grant) (h : other ≠ row) :
    (t.put row g).get other = t.get other := by
  cases row <;> cases other <;> first | rfl | exact absurd rfl h

/-- The table is its nine rows. -/
theorem table_ext (t u : ClaimTable) (h : ∀ row, t.get row = u.get row) : t = u := by
  cases t; cases u
  simp only [ClaimTable.mk.injEq]
  exact ⟨h .level1, h .level2, h .level3, h .level4, h .level5, h .level6, h .chute1, h .chute2, h .access⟩

/-! ### Channels -/

/-- A channel written reads as written. -/
theorem channel_setChannel (i : Nat) (ch : Channel) (s : State) (h : i < s.fca.channels.length) :
    (setChannel i ch s).channel i = ch := by
  simp [setChannel, State.channel, List.getD_eq_getElem?_getD, h]

/-- A channel written leaves every other channel. -/
theorem channel_setChannel_other (i j : Nat) (ch : Channel) (s : State) (h : j ≠ i) :
    (setChannel i ch s).channel j = s.channel j := by
  simp [setChannel, State.channel, List.getD_eq_getElem?_getD, Ne.symm h]

end Sys2Proof.Machine
end

