-- ==== Sys2Proof/Laws/Flags.lean ====
section
/-! SUPPORT. Frames of the operations of Machine/Flags.lean: what each leaves as it was. -/

namespace Sys2Proof.Machine

@[simp] theorem setNotice_frame (n : Notice) (s : State) :
    (setNotice n s).lkc = s.lkc ∧
    (setNotice n s).rsc = s.rsc ∧
    (setNotice n s).record = s.record ∧
    (setNotice n s).agu = s.agu ∧
    (setNotice n s).tbs = s.tbs ∧
    (setNotice n s).dre = s.dre ∧
    (setNotice n s).fca = s.fca ∧
    (setNotice n s).conditions = s.conditions ∧
    (setNotice n s).settings = s.settings ∧
    (setNotice n s).stl = s.stl ∧
    (setNotice n s).microseconds = s.microseconds ∧
    (setNotice n s).freeCount = s.freeCount ∧
    (setNotice n s).pending = s.pending ∧
    (setNotice n s).lpt.mask = s.lpt.mask ∧
    (setNotice n s).lpt.answer = s.lpt.answer ∧
    (setNotice n s).lpt.holdRequest = s.lpt.holdRequest ∧
    (setNotice n s).lpt.access = s.lpt.access ∧
    (setNotice n s).lpt.configDigest = s.lpt.configDigest := by
  unfold setNotice
  ((try dsimp only) <;> (repeat' split) <;> (try rfl) <;> simp)

@[simp] theorem setNoticeIf_frame (b : Bool) (n : Notice) (s : State) :
    (setNoticeIf b n s).lkc = s.lkc ∧
    (setNoticeIf b n s).rsc = s.rsc ∧
    (setNoticeIf b n s).record = s.record ∧
    (setNoticeIf b n s).agu = s.agu ∧
    (setNoticeIf b n s).tbs = s.tbs ∧
    (setNoticeIf b n s).dre = s.dre ∧
    (setNoticeIf b n s).fca = s.fca ∧
    (setNoticeIf b n s).conditions = s.conditions ∧
    (setNoticeIf b n s).settings = s.settings ∧
    (setNoticeIf b n s).stl = s.stl ∧
    (setNoticeIf b n s).microseconds = s.microseconds ∧
    (setNoticeIf b n s).freeCount = s.freeCount ∧
    (setNoticeIf b n s).pending = s.pending ∧
    (setNoticeIf b n s).lpt.mask = s.lpt.mask ∧
    (setNoticeIf b n s).lpt.answer = s.lpt.answer ∧
    (setNoticeIf b n s).lpt.holdRequest = s.lpt.holdRequest ∧
    (setNoticeIf b n s).lpt.access = s.lpt.access ∧
    (setNoticeIf b n s).lpt.configDigest = s.lpt.configDigest := by
  unfold setNoticeIf
  ((try dsimp only) <;> (repeat' split) <;> (try rfl) <;> simp)

@[simp] theorem setCondition_frame (c : Condition) (s : State) :
    (setCondition c s).lkc = s.lkc ∧
    (setCondition c s).rsc = s.rsc ∧
    (setCondition c s).record = s.record ∧
    (setCondition c s).agu = s.agu ∧
    (setCondition c s).tbs = s.tbs ∧
    (setCondition c s).dre = s.dre ∧
    (setCondition c s).fca = s.fca ∧
    (setCondition c s).settings = s.settings ∧
    (setCondition c s).stl = s.stl ∧
    (setCondition c s).microseconds = s.microseconds ∧
    (setCondition c s).freeCount = s.freeCount ∧
    (setCondition c s).pending = s.pending ∧
    (setCondition c s).lpt.mask = s.lpt.mask ∧
    (setCondition c s).lpt.answer = s.lpt.answer ∧
    (setCondition c s).lpt.holdRequest = s.lpt.holdRequest ∧
    (setCondition c s).lpt.access = s.lpt.access ∧
    (setCondition c s).lpt.configDigest = s.lpt.configDigest := by
  unfold setCondition
  ((try dsimp only) <;> (repeat' split) <;> (try rfl) <;> simp)

@[simp] theorem clearCondition_frame (c : Condition) (s : State) :
    (clearCondition c s).lkc = s.lkc ∧
    (clearCondition c s).rsc = s.rsc ∧
    (clearCondition c s).record = s.record ∧
    (clearCondition c s).agu = s.agu ∧
    (clearCondition c s).tbs = s.tbs ∧
    (clearCondition c s).dre = s.dre ∧
    (clearCondition c s).fca = s.fca ∧
    (clearCondition c s).settings = s.settings ∧
    (clearCondition c s).stl = s.stl ∧
    (clearCondition c s).microseconds = s.microseconds ∧
    (clearCondition c s).freeCount = s.freeCount ∧
    (clearCondition c s).pending = s.pending ∧
    (clearCondition c s).lpt.mask = s.lpt.mask ∧
    (clearCondition c s).lpt.answer = s.lpt.answer ∧
    (clearCondition c s).lpt.holdRequest = s.lpt.holdRequest ∧
    (clearCondition c s).lpt.access = s.lpt.access ∧
    (clearCondition c s).lpt.configDigest = s.lpt.configDigest := by
  unfold clearCondition
  ((try dsimp only) <;> (repeat' split) <;> (try rfl) <;> simp)

end Sys2Proof.Machine
end

