-- ==== Sys2Proof/Laws/Ops.lean ====
section
/-! SUPPORT. Frames of the operations of Machine/Ops.lean: what each leaves as it was. -/

namespace Sys2Proof.Machine

@[simp] theorem enqueue_frame (f : EventFrame) (s : State) :
    (enqueue f s).rsc = s.rsc ∧
    (enqueue f s).record = s.record ∧
    (enqueue f s).agu = s.agu ∧
    (enqueue f s).tbs = s.tbs ∧
    (enqueue f s).dre = s.dre ∧
    (enqueue f s).fca = s.fca ∧
    (enqueue f s).conditions = s.conditions ∧
    (enqueue f s).settings = s.settings ∧
    (enqueue f s).lpt = s.lpt ∧
    (enqueue f s).stl = s.stl ∧
    (enqueue f s).microseconds = s.microseconds ∧
    (enqueue f s).freeCount = s.freeCount ∧
    (enqueue f s).pending = s.pending ∧
    (enqueue f s).lkc.sending = s.lkc.sending ∧
    (enqueue f s).lkc.discarding = s.lkc.discarding := by
  unfold enqueue
  ((try dsimp only) <;> (repeat' split) <;> (try rfl) <;> simp)

@[simp] theorem offerOrDrop_frame (f : EventFrame) (s : State) :
    (offerOrDrop f s).rsc = s.rsc ∧
    (offerOrDrop f s).record = s.record ∧
    (offerOrDrop f s).agu = s.agu ∧
    (offerOrDrop f s).tbs = s.tbs ∧
    (offerOrDrop f s).dre = s.dre ∧
    (offerOrDrop f s).fca = s.fca ∧
    (offerOrDrop f s).conditions = s.conditions ∧
    (offerOrDrop f s).settings = s.settings ∧
    (offerOrDrop f s).lpt = s.lpt ∧
    (offerOrDrop f s).stl = s.stl ∧
    (offerOrDrop f s).microseconds = s.microseconds ∧
    (offerOrDrop f s).freeCount = s.freeCount ∧
    (offerOrDrop f s).pending = s.pending ∧
    (offerOrDrop f s).lkc.sending = s.lkc.sending ∧
    (offerOrDrop f s).lkc.discarding = s.lkc.discarding := by
  unfold offerOrDrop
  ((try dsimp only) <;> (repeat' split) <;> (try rfl) <;> simp)

@[simp] theorem headLeft_frame (s : State) :
    (headLeft s).rsc = s.rsc ∧
    (headLeft s).record = s.record ∧
    (headLeft s).agu = s.agu ∧
    (headLeft s).tbs = s.tbs ∧
    (headLeft s).dre = s.dre ∧
    (headLeft s).fca = s.fca ∧
    (headLeft s).settings = s.settings ∧
    (headLeft s).stl = s.stl ∧
    (headLeft s).microseconds = s.microseconds ∧
    (headLeft s).freeCount = s.freeCount ∧
    (headLeft s).pending = s.pending ∧
    (headLeft s).lkc.sending = s.lkc.sending ∧
    (headLeft s).lkc.queue = s.lkc.queue ∧
    (headLeft s).lkc.discarding = s.lkc.discarding ∧
    (headLeft s).lpt.mask = s.lpt.mask ∧
    (headLeft s).lpt.answer = s.lpt.answer ∧
    (headLeft s).lpt.holdRequest = s.lpt.holdRequest ∧
    (headLeft s).lpt.access = s.lpt.access ∧
    (headLeft s).lpt.configDigest = s.lpt.configDigest := by
  unfold headLeft
  ((try dsimp only) <;> (repeat' split) <;> (try rfl) <;> simp)

@[simp] theorem dequeue_frame (f : EventFrame) (s : State) :
    (dequeue f s).rsc = s.rsc ∧
    (dequeue f s).record = s.record ∧
    (dequeue f s).agu = s.agu ∧
    (dequeue f s).tbs = s.tbs ∧
    (dequeue f s).dre = s.dre ∧
    (dequeue f s).fca = s.fca ∧
    (dequeue f s).settings = s.settings ∧
    (dequeue f s).stl = s.stl ∧
    (dequeue f s).microseconds = s.microseconds ∧
    (dequeue f s).freeCount = s.freeCount ∧
    (dequeue f s).pending = s.pending ∧
    (dequeue f s).lkc.sending = s.lkc.sending ∧
    (dequeue f s).lkc.discarding = s.lkc.discarding ∧
    (dequeue f s).lpt.mask = s.lpt.mask ∧
    (dequeue f s).lpt.answer = s.lpt.answer ∧
    (dequeue f s).lpt.holdRequest = s.lpt.holdRequest ∧
    (dequeue f s).lpt.access = s.lpt.access ∧
    (dequeue f s).lpt.configDigest = s.lpt.configDigest := by
  unfold dequeue
  ((try dsimp only) <;> (repeat' split) <;> (try rfl) <;> simp)

@[simp] theorem refreshClaimFlags_frame (s : State) :
    (refreshClaimFlags s).lkc = s.lkc ∧
    (refreshClaimFlags s).rsc = s.rsc ∧
    (refreshClaimFlags s).record = s.record ∧
    (refreshClaimFlags s).agu = s.agu ∧
    (refreshClaimFlags s).fca = s.fca ∧
    (refreshClaimFlags s).conditions = s.conditions ∧
    (refreshClaimFlags s).settings = s.settings ∧
    (refreshClaimFlags s).stl = s.stl ∧
    (refreshClaimFlags s).microseconds = s.microseconds ∧
    (refreshClaimFlags s).freeCount = s.freeCount ∧
    (refreshClaimFlags s).pending = s.pending ∧
    (refreshClaimFlags s).tbs.state = s.tbs.state ∧
    (refreshClaimFlags s).dre.state = s.dre.state ∧
    (refreshClaimFlags s).dre.gate = s.dre.gate ∧
    (refreshClaimFlags s).lpt.mask = s.lpt.mask ∧
    (refreshClaimFlags s).lpt.answer = s.lpt.answer ∧
    (refreshClaimFlags s).lpt.holdRequest = s.lpt.holdRequest ∧
    (refreshClaimFlags s).lpt.access = s.lpt.access ∧
    (refreshClaimFlags s).lpt.configDigest = s.lpt.configDigest := by
  unfold refreshClaimFlags
  ((try dsimp only) <;> (repeat' split) <;> (try rfl) <;> simp)

@[simp] theorem offerDraw_frame (s : State) :
    (offerDraw s).rsc = s.rsc ∧
    (offerDraw s).record = s.record ∧
    (offerDraw s).agu = s.agu ∧
    (offerDraw s).tbs = s.tbs ∧
    (offerDraw s).fca = s.fca ∧
    (offerDraw s).conditions = s.conditions ∧
    (offerDraw s).settings = s.settings ∧
    (offerDraw s).lpt = s.lpt ∧
    (offerDraw s).stl = s.stl ∧
    (offerDraw s).microseconds = s.microseconds ∧
    (offerDraw s).freeCount = s.freeCount ∧
    (offerDraw s).pending = s.pending ∧
    (offerDraw s).lkc.sending = s.lkc.sending ∧
    (offerDraw s).lkc.discarding = s.lkc.discarding ∧
    (offerDraw s).dre.state = s.dre.state ∧
    (offerDraw s).dre.gate = s.dre.gate := by
  unfold offerDraw
  ((try dsimp only) <;> (repeat' split) <;> (try rfl) <;> simp)

@[simp] theorem changeRecord_frame (r : Record) (s : State) :
    (changeRecord r s).lkc = s.lkc ∧
    (changeRecord r s).rsc = s.rsc ∧
    (changeRecord r s).agu = s.agu ∧
    (changeRecord r s).tbs = s.tbs ∧
    (changeRecord r s).dre = s.dre ∧
    (changeRecord r s).fca = s.fca ∧
    (changeRecord r s).conditions = s.conditions ∧
    (changeRecord r s).settings = s.settings ∧
    (changeRecord r s).stl = s.stl ∧
    (changeRecord r s).microseconds = s.microseconds ∧
    (changeRecord r s).freeCount = s.freeCount ∧
    (changeRecord r s).pending = s.pending ∧
    (changeRecord r s).lpt.mask = s.lpt.mask ∧
    (changeRecord r s).lpt.answer = s.lpt.answer ∧
    (changeRecord r s).lpt.holdRequest = s.lpt.holdRequest ∧
    (changeRecord r s).lpt.access = s.lpt.access ∧
    (changeRecord r s).lpt.configDigest = s.lpt.configDigest := by
  unfold changeRecord
  ((try dsimp only) <;> (repeat' split) <;> (try rfl) <;> simp)

@[simp] theorem changeColumn_frame (r : Record) (s : State) :
    (changeColumn r s).lkc = s.lkc ∧
    (changeColumn r s).rsc = s.rsc ∧
    (changeColumn r s).agu = s.agu ∧
    (changeColumn r s).tbs = s.tbs ∧
    (changeColumn r s).dre = s.dre ∧
    (changeColumn r s).fca = s.fca ∧
    (changeColumn r s).conditions = s.conditions ∧
    (changeColumn r s).settings = s.settings ∧
    (changeColumn r s).stl = s.stl ∧
    (changeColumn r s).microseconds = s.microseconds ∧
    (changeColumn r s).freeCount = s.freeCount ∧
    (changeColumn r s).pending = s.pending ∧
    (changeColumn r s).lpt.mask = s.lpt.mask ∧
    (changeColumn r s).lpt.answer = s.lpt.answer ∧
    (changeColumn r s).lpt.holdRequest = s.lpt.holdRequest ∧
    (changeColumn r s).lpt.access = s.lpt.access ∧
    (changeColumn r s).lpt.configDigest = s.lpt.configDigest := by
  unfold changeColumn
  ((try dsimp only) <;> (repeat' split) <;> (try rfl) <;> simp)

@[simp] theorem setLink_frame (l : LinkState) (s : State) :
    (setLink l s).lkc = s.lkc ∧
    (setLink l s).record = s.record ∧
    (setLink l s).agu = s.agu ∧
    (setLink l s).tbs = s.tbs ∧
    (setLink l s).dre = s.dre ∧
    (setLink l s).fca = s.fca ∧
    (setLink l s).conditions = s.conditions ∧
    (setLink l s).settings = s.settings ∧
    (setLink l s).stl = s.stl ∧
    (setLink l s).microseconds = s.microseconds ∧
    (setLink l s).freeCount = s.freeCount ∧
    (setLink l s).pending = s.pending ∧
    (setLink l s).rsc.roundTime = s.rsc.roundTime ∧
    (setLink l s).rsc.paused = s.rsc.paused ∧
    (setLink l s).rsc.span = s.rsc.span ∧
    (setLink l s).lpt.mask = s.lpt.mask ∧
    (setLink l s).lpt.answer = s.lpt.answer ∧
    (setLink l s).lpt.holdRequest = s.lpt.holdRequest ∧
    (setLink l s).lpt.access = s.lpt.access ∧
    (setLink l s).lpt.configDigest = s.lpt.configDigest := by
  unfold setLink
  ((try dsimp only) <;> (repeat' split) <;> (try rfl) <;> simp)

@[simp] theorem mapChannels_frame (g : Channel → Channel) (s : State) :
    (mapChannels g s).lkc = s.lkc ∧
    (mapChannels g s).rsc = s.rsc ∧
    (mapChannels g s).record = s.record ∧
    (mapChannels g s).agu = s.agu ∧
    (mapChannels g s).tbs = s.tbs ∧
    (mapChannels g s).dre = s.dre ∧
    (mapChannels g s).conditions = s.conditions ∧
    (mapChannels g s).settings = s.settings ∧
    (mapChannels g s).lpt = s.lpt ∧
    (mapChannels g s).stl = s.stl ∧
    (mapChannels g s).microseconds = s.microseconds ∧
    (mapChannels g s).freeCount = s.freeCount ∧
    (mapChannels g s).pending = s.pending ∧
    (mapChannels g s).fca.sightingCount = s.fca.sightingCount := by
  unfold mapChannels
  ((try dsimp only) <;> (repeat' split) <;> (try rfl) <;> simp)

@[simp] theorem commandFunc_frame (f : Func) (on : Bool) (s : State) :
    (commandFunc f on s).lkc = s.lkc ∧
    (commandFunc f on s).rsc = s.rsc ∧
    (commandFunc f on s).record = s.record ∧
    (commandFunc f on s).agu = s.agu ∧
    (commandFunc f on s).tbs = s.tbs ∧
    (commandFunc f on s).dre = s.dre ∧
    (commandFunc f on s).conditions = s.conditions ∧
    (commandFunc f on s).settings = s.settings ∧
    (commandFunc f on s).lpt = s.lpt ∧
    (commandFunc f on s).stl = s.stl ∧
    (commandFunc f on s).microseconds = s.microseconds ∧
    (commandFunc f on s).freeCount = s.freeCount ∧
    (commandFunc f on s).pending = s.pending ∧
    (commandFunc f on s).fca.sightingCount = s.fca.sightingCount := by
  unfold commandFunc
  ((try dsimp only) <;> (repeat' split) <;> (try rfl) <;> simp)

@[simp] theorem commandSequencer_frame (s : State) :
    (commandSequencer s).lkc = s.lkc ∧
    (commandSequencer s).rsc = s.rsc ∧
    (commandSequencer s).record = s.record ∧
    (commandSequencer s).agu = s.agu ∧
    (commandSequencer s).dre = s.dre ∧
    (commandSequencer s).conditions = s.conditions ∧
    (commandSequencer s).settings = s.settings ∧
    (commandSequencer s).lpt = s.lpt ∧
    (commandSequencer s).stl = s.stl ∧
    (commandSequencer s).microseconds = s.microseconds ∧
    (commandSequencer s).freeCount = s.freeCount ∧
    (commandSequencer s).pending = s.pending ∧
    (commandSequencer s).tbs.state = s.tbs.state ∧
    (commandSequencer s).fca.sightingCount = s.fca.sightingCount := by
  unfold commandSequencer
  ((try dsimp only) <;> (repeat' split) <;> (try rfl) <;> simp)

@[simp] theorem commandOpenValve_frame (s : State) :
    (commandOpenValve s).lkc = s.lkc ∧
    (commandOpenValve s).rsc = s.rsc ∧
    (commandOpenValve s).record = s.record ∧
    (commandOpenValve s).agu = s.agu ∧
    (commandOpenValve s).tbs = s.tbs ∧
    (commandOpenValve s).conditions = s.conditions ∧
    (commandOpenValve s).settings = s.settings ∧
    (commandOpenValve s).lpt = s.lpt ∧
    (commandOpenValve s).stl = s.stl ∧
    (commandOpenValve s).microseconds = s.microseconds ∧
    (commandOpenValve s).freeCount = s.freeCount ∧
    (commandOpenValve s).pending = s.pending ∧
    (commandOpenValve s).dre.state = s.dre.state ∧
    (commandOpenValve s).dre.gate = s.dre.gate ∧
    (commandOpenValve s).fca.sightingCount = s.fca.sightingCount := by
  unfold commandOpenValve
  ((try dsimp only) <;> (repeat' split) <;> (try rfl) <;> simp)

@[simp] theorem commandCloseValve_frame (s : State) :
    (commandCloseValve s).lkc = s.lkc ∧
    (commandCloseValve s).rsc = s.rsc ∧
    (commandCloseValve s).record = s.record ∧
    (commandCloseValve s).agu = s.agu ∧
    (commandCloseValve s).tbs = s.tbs ∧
    (commandCloseValve s).conditions = s.conditions ∧
    (commandCloseValve s).settings = s.settings ∧
    (commandCloseValve s).lpt = s.lpt ∧
    (commandCloseValve s).stl = s.stl ∧
    (commandCloseValve s).microseconds = s.microseconds ∧
    (commandCloseValve s).freeCount = s.freeCount ∧
    (commandCloseValve s).pending = s.pending ∧
    (commandCloseValve s).dre.state = s.dre.state ∧
    (commandCloseValve s).dre.gate = s.dre.gate ∧
    (commandCloseValve s).fca.sightingCount = s.fca.sightingCount := by
  unfold commandCloseValve
  ((try dsimp only) <;> (repeat' split) <;> (try rfl) <;> simp)

@[simp] theorem commandOutputs_frame (s : State) :
    (commandOutputs s).lkc = s.lkc ∧
    (commandOutputs s).rsc = s.rsc ∧
    (commandOutputs s).record = s.record ∧
    (commandOutputs s).agu = s.agu ∧
    (commandOutputs s).conditions = s.conditions ∧
    (commandOutputs s).settings = s.settings ∧
    (commandOutputs s).lpt = s.lpt ∧
    (commandOutputs s).stl = s.stl ∧
    (commandOutputs s).microseconds = s.microseconds ∧
    (commandOutputs s).freeCount = s.freeCount ∧
    (commandOutputs s).pending = s.pending ∧
    (commandOutputs s).tbs.state = s.tbs.state ∧
    (commandOutputs s).dre.state = s.dre.state ∧
    (commandOutputs s).dre.gate = s.dre.gate ∧
    (commandOutputs s).fca.sightingCount = s.fca.sightingCount := by
  unfold commandOutputs
  ((try dsimp only) <;> (repeat' split) <;> (try rfl) <;> simp)

@[simp] theorem driveOutputs_frame (s : State) :
    (driveOutputs s).lkc = s.lkc ∧
    (driveOutputs s).rsc = s.rsc ∧
    (driveOutputs s).record = s.record ∧
    (driveOutputs s).agu = s.agu ∧
    (driveOutputs s).tbs = s.tbs ∧
    (driveOutputs s).dre = s.dre ∧
    (driveOutputs s).conditions = s.conditions ∧
    (driveOutputs s).settings = s.settings ∧
    (driveOutputs s).lpt = s.lpt ∧
    (driveOutputs s).stl = s.stl ∧
    (driveOutputs s).microseconds = s.microseconds ∧
    (driveOutputs s).freeCount = s.freeCount ∧
    (driveOutputs s).pending = s.pending ∧
    (driveOutputs s).fca.sightingCount = s.fca.sightingCount := by
  unfold driveOutputs
  ((try dsimp only) <;> (repeat' split) <;> (try rfl) <;> simp)

@[simp] theorem allOutputsOff_frame (s : State) :
    (allOutputsOff s).lkc = s.lkc ∧
    (allOutputsOff s).rsc = s.rsc ∧
    (allOutputsOff s).record = s.record ∧
    (allOutputsOff s).agu = s.agu ∧
    (allOutputsOff s).tbs = s.tbs ∧
    (allOutputsOff s).dre = s.dre ∧
    (allOutputsOff s).conditions = s.conditions ∧
    (allOutputsOff s).settings = s.settings ∧
    (allOutputsOff s).lpt = s.lpt ∧
    (allOutputsOff s).stl = s.stl ∧
    (allOutputsOff s).microseconds = s.microseconds ∧
    (allOutputsOff s).freeCount = s.freeCount ∧
    (allOutputsOff s).pending = s.pending ∧
    (allOutputsOff s).fca.sightingCount = s.fca.sightingCount := by
  unfold allOutputsOff
  ((try dsimp only) <;> (repeat' split) <;> (try rfl) <;> simp)

end Sys2Proof.Machine
end

