-- ==== Sys2Proof/Laws/Engine.lean ====
section
/-! SUPPORT. Frames of the operations of Machine/Engine.lean: what each leaves as it was. -/

namespace Sys2Proof.Machine

@[simp] theorem setGate_frame (g : GateState) (s : State) :
    (setGate g s).lkc = s.lkc ∧
    (setGate g s).rsc = s.rsc ∧
    (setGate g s).record = s.record ∧
    (setGate g s).agu = s.agu ∧
    (setGate g s).tbs = s.tbs ∧
    (setGate g s).fca = s.fca ∧
    (setGate g s).conditions = s.conditions ∧
    (setGate g s).settings = s.settings ∧
    (setGate g s).stl = s.stl ∧
    (setGate g s).microseconds = s.microseconds ∧
    (setGate g s).freeCount = s.freeCount ∧
    (setGate g s).pending = s.pending ∧
    (setGate g s).dre.state = s.dre.state ∧
    (setGate g s).lpt.mask = s.lpt.mask ∧
    (setGate g s).lpt.answer = s.lpt.answer ∧
    (setGate g s).lpt.holdRequest = s.lpt.holdRequest ∧
    (setGate g s).lpt.access = s.lpt.access ∧
    (setGate g s).lpt.configDigest = s.lpt.configDigest := by
  unfold setGate
  ((try dsimp only) <;> (repeat' split) <;> (try rfl) <;> simp)

@[simp] theorem gateOpened_frame (s : State) :
    (gateOpened s).lkc = s.lkc ∧
    (gateOpened s).rsc = s.rsc ∧
    (gateOpened s).record = s.record ∧
    (gateOpened s).agu = s.agu ∧
    (gateOpened s).tbs = s.tbs ∧
    (gateOpened s).fca = s.fca ∧
    (gateOpened s).conditions = s.conditions ∧
    (gateOpened s).settings = s.settings ∧
    (gateOpened s).stl = s.stl ∧
    (gateOpened s).microseconds = s.microseconds ∧
    (gateOpened s).freeCount = s.freeCount ∧
    (gateOpened s).pending = s.pending ∧
    (gateOpened s).dre.state = s.dre.state ∧
    (gateOpened s).lpt.mask = s.lpt.mask ∧
    (gateOpened s).lpt.answer = s.lpt.answer ∧
    (gateOpened s).lpt.holdRequest = s.lpt.holdRequest ∧
    (gateOpened s).lpt.access = s.lpt.access ∧
    (gateOpened s).lpt.configDigest = s.lpt.configDigest := by
  unfold gateOpened
  ((try dsimp only) <;> (repeat' split) <;> (try rfl) <;> simp)

@[simp] theorem gateLimits_frame (s : State) :
    (gateLimits s).lkc = s.lkc ∧
    (gateLimits s).rsc = s.rsc ∧
    (gateLimits s).record = s.record ∧
    (gateLimits s).agu = s.agu ∧
    (gateLimits s).tbs = s.tbs ∧
    (gateLimits s).fca = s.fca ∧
    (gateLimits s).conditions = s.conditions ∧
    (gateLimits s).settings = s.settings ∧
    (gateLimits s).stl = s.stl ∧
    (gateLimits s).microseconds = s.microseconds ∧
    (gateLimits s).freeCount = s.freeCount ∧
    (gateLimits s).pending = s.pending ∧
    (gateLimits s).dre.state = s.dre.state ∧
    (gateLimits s).lpt.mask = s.lpt.mask ∧
    (gateLimits s).lpt.answer = s.lpt.answer ∧
    (gateLimits s).lpt.holdRequest = s.lpt.holdRequest ∧
    (gateLimits s).lpt.access = s.lpt.access ∧
    (gateLimits s).lpt.configDigest = s.lpt.configDigest := by
  unfold gateLimits
  ((try dsimp only) <;> (repeat' split) <;> (try rfl) <;> simp)

@[simp] theorem startStroke_frame (g : GateState) (s : State) :
    (startStroke g s).lkc = s.lkc ∧
    (startStroke g s).rsc = s.rsc ∧
    (startStroke g s).record = s.record ∧
    (startStroke g s).agu = s.agu ∧
    (startStroke g s).tbs = s.tbs ∧
    (startStroke g s).fca = s.fca ∧
    (startStroke g s).conditions = s.conditions ∧
    (startStroke g s).settings = s.settings ∧
    (startStroke g s).stl = s.stl ∧
    (startStroke g s).microseconds = s.microseconds ∧
    (startStroke g s).freeCount = s.freeCount ∧
    (startStroke g s).pending = s.pending ∧
    (startStroke g s).dre.state = s.dre.state ∧
    (startStroke g s).lpt.mask = s.lpt.mask ∧
    (startStroke g s).lpt.answer = s.lpt.answer ∧
    (startStroke g s).lpt.holdRequest = s.lpt.holdRequest ∧
    (startStroke g s).lpt.access = s.lpt.access ∧
    (startStroke g s).lpt.configDigest = s.lpt.configDigest := by
  unfold startStroke
  ((try dsimp only) <;> (repeat' split) <;> (try rfl) <;> simp)

@[simp] theorem closeCommand_frame (s : State) :
    (closeCommand s).lkc = s.lkc ∧
    (closeCommand s).rsc = s.rsc ∧
    (closeCommand s).record = s.record ∧
    (closeCommand s).agu = s.agu ∧
    (closeCommand s).tbs = s.tbs ∧
    (closeCommand s).fca = s.fca ∧
    (closeCommand s).conditions = s.conditions ∧
    (closeCommand s).settings = s.settings ∧
    (closeCommand s).stl = s.stl ∧
    (closeCommand s).microseconds = s.microseconds ∧
    (closeCommand s).freeCount = s.freeCount ∧
    (closeCommand s).pending = s.pending ∧
    (closeCommand s).dre.state = s.dre.state ∧
    (closeCommand s).lpt.mask = s.lpt.mask ∧
    (closeCommand s).lpt.answer = s.lpt.answer ∧
    (closeCommand s).lpt.holdRequest = s.lpt.holdRequest ∧
    (closeCommand s).lpt.access = s.lpt.access ∧
    (closeCommand s).lpt.configDigest = s.lpt.configDigest := by
  unfold closeCommand
  ((try dsimp only) <;> (repeat' split) <;> (try rfl) <;> simp)

@[simp] theorem openCommand_frame (s : State) :
    (openCommand s).lkc = s.lkc ∧
    (openCommand s).rsc = s.rsc ∧
    (openCommand s).record = s.record ∧
    (openCommand s).agu = s.agu ∧
    (openCommand s).tbs = s.tbs ∧
    (openCommand s).fca = s.fca ∧
    (openCommand s).conditions = s.conditions ∧
    (openCommand s).settings = s.settings ∧
    (openCommand s).stl = s.stl ∧
    (openCommand s).microseconds = s.microseconds ∧
    (openCommand s).freeCount = s.freeCount ∧
    (openCommand s).pending = s.pending ∧
    (openCommand s).dre.state = s.dre.state ∧
    (openCommand s).lpt.mask = s.lpt.mask ∧
    (openCommand s).lpt.answer = s.lpt.answer ∧
    (openCommand s).lpt.holdRequest = s.lpt.holdRequest ∧
    (openCommand s).lpt.access = s.lpt.access ∧
    (openCommand s).lpt.configDigest = s.lpt.configDigest := by
  unfold openCommand
  ((try dsimp only) <;> (repeat' split) <;> (try rfl) <;> simp)

@[simp] theorem setEngine_frame (e : EngineState) (s : State) :
    (setEngine e s).lkc = s.lkc ∧
    (setEngine e s).rsc = s.rsc ∧
    (setEngine e s).record = s.record ∧
    (setEngine e s).agu = s.agu ∧
    (setEngine e s).tbs = s.tbs ∧
    (setEngine e s).fca = s.fca ∧
    (setEngine e s).conditions = s.conditions ∧
    (setEngine e s).settings = s.settings ∧
    (setEngine e s).lpt = s.lpt ∧
    (setEngine e s).stl = s.stl ∧
    (setEngine e s).microseconds = s.microseconds ∧
    (setEngine e s).freeCount = s.freeCount ∧
    (setEngine e s).pending = s.pending ∧
    (setEngine e s).dre.gate = s.dre.gate := by
  unfold setEngine
  ((try dsimp only) <;> (repeat' split) <;> (try rfl) <;> simp)

@[simp] theorem startOrder_frame (s : State) :
    (startOrder s).lkc = s.lkc ∧
    (startOrder s).rsc = s.rsc ∧
    (startOrder s).record = s.record ∧
    (startOrder s).agu = s.agu ∧
    (startOrder s).tbs = s.tbs ∧
    (startOrder s).fca = s.fca ∧
    (startOrder s).conditions = s.conditions ∧
    (startOrder s).settings = s.settings ∧
    (startOrder s).stl = s.stl ∧
    (startOrder s).microseconds = s.microseconds ∧
    (startOrder s).freeCount = s.freeCount ∧
    (startOrder s).pending = s.pending ∧
    (startOrder s).lpt.mask = s.lpt.mask ∧
    (startOrder s).lpt.answer = s.lpt.answer ∧
    (startOrder s).lpt.holdRequest = s.lpt.holdRequest ∧
    (startOrder s).lpt.access = s.lpt.access ∧
    (startOrder s).lpt.configDigest = s.lpt.configDigest := by
  unfold startOrder
  ((try dsimp only) <;> (repeat' split) <;> (try rfl) <;> simp)

@[simp] theorem offerRelease_frame (s : State) :
    (offerRelease s).rsc = s.rsc ∧
    (offerRelease s).record = s.record ∧
    (offerRelease s).agu = s.agu ∧
    (offerRelease s).tbs = s.tbs ∧
    (offerRelease s).fca = s.fca ∧
    (offerRelease s).conditions = s.conditions ∧
    (offerRelease s).settings = s.settings ∧
    (offerRelease s).lpt = s.lpt ∧
    (offerRelease s).stl = s.stl ∧
    (offerRelease s).microseconds = s.microseconds ∧
    (offerRelease s).freeCount = s.freeCount ∧
    (offerRelease s).pending = s.pending ∧
    (offerRelease s).lkc.sending = s.lkc.sending ∧
    (offerRelease s).lkc.discarding = s.lkc.discarding ∧
    (offerRelease s).dre.state = s.dre.state ∧
    (offerRelease s).dre.gate = s.dre.gate := by
  unfold offerRelease
  ((try dsimp only) <;> (repeat' split) <;> (try rfl) <;> simp)

@[simp] theorem releaseRow_frame (s : State) :
    (releaseRow s).rsc = s.rsc ∧
    (releaseRow s).record = s.record ∧
    (releaseRow s).agu = s.agu ∧
    (releaseRow s).tbs = s.tbs ∧
    (releaseRow s).fca = s.fca ∧
    (releaseRow s).conditions = s.conditions ∧
    (releaseRow s).settings = s.settings ∧
    (releaseRow s).lpt = s.lpt ∧
    (releaseRow s).stl = s.stl ∧
    (releaseRow s).microseconds = s.microseconds ∧
    (releaseRow s).freeCount = s.freeCount ∧
    (releaseRow s).pending = s.pending ∧
    (releaseRow s).lkc.sending = s.lkc.sending ∧
    (releaseRow s).lkc.discarding = s.lkc.discarding ∧
    (releaseRow s).dre.state = s.dre.state ∧
    (releaseRow s).dre.gate = s.dre.gate := by
  unfold releaseRow
  ((try dsimp only) <;> (repeat' split) <;> (try rfl) <;> simp)

@[simp] theorem withdrawRow_frame (s : State) :
    (withdrawRow s).rsc = s.rsc ∧
    (withdrawRow s).record = s.record ∧
    (withdrawRow s).agu = s.agu ∧
    (withdrawRow s).tbs = s.tbs ∧
    (withdrawRow s).dre = s.dre ∧
    (withdrawRow s).fca = s.fca ∧
    (withdrawRow s).conditions = s.conditions ∧
    (withdrawRow s).settings = s.settings ∧
    (withdrawRow s).lpt = s.lpt ∧
    (withdrawRow s).stl = s.stl ∧
    (withdrawRow s).microseconds = s.microseconds ∧
    (withdrawRow s).freeCount = s.freeCount ∧
    (withdrawRow s).pending = s.pending ∧
    (withdrawRow s).lkc.sending = s.lkc.sending ∧
    (withdrawRow s).lkc.discarding = s.lkc.discarding := by
  unfold withdrawRow
  ((try dsimp only) <;> (repeat' split) <;> (try rfl) <;> simp)

@[simp] theorem endOrders_frame (o : OrderOutcome) (s : State) :
    (endOrders o s).lkc = s.lkc ∧
    (endOrders o s).rsc = s.rsc ∧
    (endOrders o s).record = s.record ∧
    (endOrders o s).agu = s.agu ∧
    (endOrders o s).tbs = s.tbs ∧
    (endOrders o s).fca = s.fca ∧
    (endOrders o s).conditions = s.conditions ∧
    (endOrders o s).settings = s.settings ∧
    (endOrders o s).stl = s.stl ∧
    (endOrders o s).microseconds = s.microseconds ∧
    (endOrders o s).freeCount = s.freeCount ∧
    (endOrders o s).pending = s.pending ∧
    (endOrders o s).dre.state = s.dre.state ∧
    (endOrders o s).dre.gate = s.dre.gate ∧
    (endOrders o s).lpt.mask = s.lpt.mask ∧
    (endOrders o s).lpt.answer = s.lpt.answer ∧
    (endOrders o s).lpt.holdRequest = s.lpt.holdRequest ∧
    (endOrders o s).lpt.access = s.lpt.access ∧
    (endOrders o s).lpt.configDigest = s.lpt.configDigest := by
  unfold endOrders
  ((try dsimp only) <;> (repeat' split) <;> (try rfl) <;> simp)

@[simp] theorem endCurrent_frame (o : OrderOutcome) (s : State) :
    (endCurrent o s).rsc = s.rsc ∧
    (endCurrent o s).record = s.record ∧
    (endCurrent o s).agu = s.agu ∧
    (endCurrent o s).tbs = s.tbs ∧
    (endCurrent o s).fca = s.fca ∧
    (endCurrent o s).conditions = s.conditions ∧
    (endCurrent o s).settings = s.settings ∧
    (endCurrent o s).stl = s.stl ∧
    (endCurrent o s).microseconds = s.microseconds ∧
    (endCurrent o s).freeCount = s.freeCount ∧
    (endCurrent o s).pending = s.pending ∧
    (endCurrent o s).lkc.sending = s.lkc.sending ∧
    (endCurrent o s).lkc.discarding = s.lkc.discarding ∧
    (endCurrent o s).lpt.mask = s.lpt.mask ∧
    (endCurrent o s).lpt.answer = s.lpt.answer ∧
    (endCurrent o s).lpt.holdRequest = s.lpt.holdRequest ∧
    (endCurrent o s).lpt.access = s.lpt.access ∧
    (endCurrent o s).lpt.configDigest = s.lpt.configDigest := by
  unfold endCurrent
  ((try dsimp only) <;> (repeat' split) <;> (try rfl) <;> simp)

@[simp] theorem cushionStop_frame (s : State) :
    (cushionStop s).rsc = s.rsc ∧
    (cushionStop s).record = s.record ∧
    (cushionStop s).agu = s.agu ∧
    (cushionStop s).tbs = s.tbs ∧
    (cushionStop s).fca = s.fca ∧
    (cushionStop s).conditions = s.conditions ∧
    (cushionStop s).settings = s.settings ∧
    (cushionStop s).stl = s.stl ∧
    (cushionStop s).microseconds = s.microseconds ∧
    (cushionStop s).freeCount = s.freeCount ∧
    (cushionStop s).pending = s.pending ∧
    (cushionStop s).lkc.sending = s.lkc.sending ∧
    (cushionStop s).lkc.discarding = s.lkc.discarding ∧
    (cushionStop s).lpt.mask = s.lpt.mask ∧
    (cushionStop s).lpt.answer = s.lpt.answer ∧
    (cushionStop s).lpt.holdRequest = s.lpt.holdRequest ∧
    (cushionStop s).lpt.access = s.lpt.access ∧
    (cushionStop s).lpt.configDigest = s.lpt.configDigest := by
  unfold cushionStop
  ((try dsimp only) <;> (repeat' split) <;> (try rfl) <;> simp)

@[simp] theorem cushionTest_frame (s : State) :
    (cushionTest s).rsc = s.rsc ∧
    (cushionTest s).record = s.record ∧
    (cushionTest s).agu = s.agu ∧
    (cushionTest s).tbs = s.tbs ∧
    (cushionTest s).fca = s.fca ∧
    (cushionTest s).conditions = s.conditions ∧
    (cushionTest s).settings = s.settings ∧
    (cushionTest s).stl = s.stl ∧
    (cushionTest s).microseconds = s.microseconds ∧
    (cushionTest s).freeCount = s.freeCount ∧
    (cushionTest s).pending = s.pending ∧
    (cushionTest s).lkc.sending = s.lkc.sending ∧
    (cushionTest s).lkc.discarding = s.lkc.discarding ∧
    (cushionTest s).lpt.mask = s.lpt.mask ∧
    (cushionTest s).lpt.answer = s.lpt.answer ∧
    (cushionTest s).lpt.holdRequest = s.lpt.holdRequest ∧
    (cushionTest s).lpt.access = s.lpt.access ∧
    (cushionTest s).lpt.configDigest = s.lpt.configDigest := by
  unfold cushionTest
  ((try dsimp only) <;> (repeat' split) <;> (try rfl) <;> simp)

@[simp] theorem completeDraw_frame (s : State) :
    (completeDraw s).rsc = s.rsc ∧
    (completeDraw s).record = s.record ∧
    (completeDraw s).agu = s.agu ∧
    (completeDraw s).tbs = s.tbs ∧
    (completeDraw s).fca = s.fca ∧
    (completeDraw s).conditions = s.conditions ∧
    (completeDraw s).settings = s.settings ∧
    (completeDraw s).stl = s.stl ∧
    (completeDraw s).microseconds = s.microseconds ∧
    (completeDraw s).freeCount = s.freeCount ∧
    (completeDraw s).pending = s.pending ∧
    (completeDraw s).lkc.sending = s.lkc.sending ∧
    (completeDraw s).lkc.discarding = s.lkc.discarding ∧
    (completeDraw s).lpt.mask = s.lpt.mask ∧
    (completeDraw s).lpt.answer = s.lpt.answer ∧
    (completeDraw s).lpt.holdRequest = s.lpt.holdRequest ∧
    (completeDraw s).lpt.access = s.lpt.access ∧
    (completeDraw s).lpt.configDigest = s.lpt.configDigest := by
  unfold completeDraw
  ((try dsimp only) <;> (repeat' split) <;> (try rfl) <;> simp)

@[simp] theorem clearEngineClaim_frame (s : State) :
    (clearEngineClaim s).lkc = s.lkc ∧
    (clearEngineClaim s).rsc = s.rsc ∧
    (clearEngineClaim s).record = s.record ∧
    (clearEngineClaim s).agu = s.agu ∧
    (clearEngineClaim s).tbs = s.tbs ∧
    (clearEngineClaim s).fca = s.fca ∧
    (clearEngineClaim s).conditions = s.conditions ∧
    (clearEngineClaim s).settings = s.settings ∧
    (clearEngineClaim s).lpt = s.lpt ∧
    (clearEngineClaim s).stl = s.stl ∧
    (clearEngineClaim s).microseconds = s.microseconds ∧
    (clearEngineClaim s).freeCount = s.freeCount ∧
    (clearEngineClaim s).pending = s.pending ∧
    (clearEngineClaim s).dre = { s.dre with claimInQueue := false } := by
  unfold clearEngineClaim
  simp

/-- When an outcome of the PRU is the engine's own. -/
theorem engineAwaits_iff (s : State) :
    s.engineAwaits = true ↔ s.dre.state = .asking ∧ s.dre.claimInQueue = false := by
  simp [State.engineAwaits]

@[simp] theorem engineGranted_frame (s : State) :
    (engineGranted s).rsc = s.rsc ∧
    (engineGranted s).record = s.record ∧
    (engineGranted s).agu = s.agu ∧
    (engineGranted s).tbs = s.tbs ∧
    (engineGranted s).fca = s.fca ∧
    (engineGranted s).conditions = s.conditions ∧
    (engineGranted s).settings = s.settings ∧
    (engineGranted s).stl = s.stl ∧
    (engineGranted s).microseconds = s.microseconds ∧
    (engineGranted s).freeCount = s.freeCount ∧
    (engineGranted s).pending = s.pending ∧
    (engineGranted s).lkc.sending = s.lkc.sending ∧
    (engineGranted s).lkc.discarding = s.lkc.discarding ∧
    (engineGranted s).lpt.mask = s.lpt.mask ∧
    (engineGranted s).lpt.answer = s.lpt.answer ∧
    (engineGranted s).lpt.holdRequest = s.lpt.holdRequest ∧
    (engineGranted s).lpt.access = s.lpt.access ∧
    (engineGranted s).lpt.configDigest = s.lpt.configDigest := by
  unfold engineGranted
  ((try dsimp only) <;> (repeat' split) <;> (try rfl) <;> simp)

@[simp] theorem engineRefused_frame (s : State) :
    (engineRefused s).lkc = s.lkc ∧
    (engineRefused s).rsc = s.rsc ∧
    (engineRefused s).record = s.record ∧
    (engineRefused s).agu = s.agu ∧
    (engineRefused s).tbs = s.tbs ∧
    (engineRefused s).fca = s.fca ∧
    (engineRefused s).conditions = s.conditions ∧
    (engineRefused s).settings = s.settings ∧
    (engineRefused s).stl = s.stl ∧
    (engineRefused s).microseconds = s.microseconds ∧
    (engineRefused s).freeCount = s.freeCount ∧
    (engineRefused s).pending = s.pending ∧
    (engineRefused s).dre.gate = s.dre.gate ∧
    (engineRefused s).lpt.mask = s.lpt.mask ∧
    (engineRefused s).lpt.answer = s.lpt.answer ∧
    (engineRefused s).lpt.holdRequest = s.lpt.holdRequest ∧
    (engineRefused s).lpt.access = s.lpt.access ∧
    (engineRefused s).lpt.configDigest = s.lpt.configDigest := by
  unfold engineRefused
  ((try dsimp only) <;> (repeat' split) <;> (try rfl) <;> simp)

@[simp] theorem engineDiscarded_frame (s : State) :
    (engineDiscarded s).lkc = s.lkc ∧
    (engineDiscarded s).rsc = s.rsc ∧
    (engineDiscarded s).record = s.record ∧
    (engineDiscarded s).agu = s.agu ∧
    (engineDiscarded s).tbs = s.tbs ∧
    (engineDiscarded s).fca = s.fca ∧
    (engineDiscarded s).conditions = s.conditions ∧
    (engineDiscarded s).settings = s.settings ∧
    (engineDiscarded s).stl = s.stl ∧
    (engineDiscarded s).microseconds = s.microseconds ∧
    (engineDiscarded s).freeCount = s.freeCount ∧
    (engineDiscarded s).pending = s.pending ∧
    (engineDiscarded s).dre.gate = s.dre.gate ∧
    (engineDiscarded s).lpt.mask = s.lpt.mask ∧
    (engineDiscarded s).lpt.answer = s.lpt.answer ∧
    (engineDiscarded s).lpt.holdRequest = s.lpt.holdRequest ∧
    (engineDiscarded s).lpt.access = s.lpt.access ∧
    (engineDiscarded s).lpt.configDigest = s.lpt.configDigest := by
  unfold engineDiscarded
  ((try dsimp only) <;> (repeat' split) <;> (try rfl) <;> simp)

@[simp] theorem engineLost_frame (s : State) :
    (engineLost s).lkc = s.lkc ∧
    (engineLost s).rsc = s.rsc ∧
    (engineLost s).record = s.record ∧
    (engineLost s).agu = s.agu ∧
    (engineLost s).tbs = s.tbs ∧
    (engineLost s).fca = s.fca ∧
    (engineLost s).conditions = s.conditions ∧
    (engineLost s).settings = s.settings ∧
    (engineLost s).stl = s.stl ∧
    (engineLost s).microseconds = s.microseconds ∧
    (engineLost s).freeCount = s.freeCount ∧
    (engineLost s).pending = s.pending ∧
    (engineLost s).lpt.mask = s.lpt.mask ∧
    (engineLost s).lpt.answer = s.lpt.answer ∧
    (engineLost s).lpt.holdRequest = s.lpt.holdRequest ∧
    (engineLost s).lpt.access = s.lpt.access ∧
    (engineLost s).lpt.configDigest = s.lpt.configDigest := by
  unfold engineLost
  ((try dsimp only) <;> (repeat' split) <;> (try rfl) <;> simp)

@[simp] theorem engineHungUp_frame (s : State) :
    (engineHungUp s).rsc = s.rsc ∧
    (engineHungUp s).record = s.record ∧
    (engineHungUp s).agu = s.agu ∧
    (engineHungUp s).tbs = s.tbs ∧
    (engineHungUp s).fca = s.fca ∧
    (engineHungUp s).conditions = s.conditions ∧
    (engineHungUp s).settings = s.settings ∧
    (engineHungUp s).stl = s.stl ∧
    (engineHungUp s).microseconds = s.microseconds ∧
    (engineHungUp s).freeCount = s.freeCount ∧
    (engineHungUp s).pending = s.pending ∧
    (engineHungUp s).lkc.sending = s.lkc.sending ∧
    (engineHungUp s).lkc.discarding = s.lkc.discarding ∧
    (engineHungUp s).lpt.mask = s.lpt.mask ∧
    (engineHungUp s).lpt.answer = s.lpt.answer ∧
    (engineHungUp s).lpt.holdRequest = s.lpt.holdRequest ∧
    (engineHungUp s).lpt.access = s.lpt.access ∧
    (engineHungUp s).lpt.configDigest = s.lpt.configDigest := by
  unfold engineHungUp
  ((try dsimp only) <;> (repeat' split) <;> (try rfl) <;> simp)

@[simp] theorem engineFreed_frame (s : State) :
    (engineFreed s).lkc = s.lkc ∧
    (engineFreed s).rsc = s.rsc ∧
    (engineFreed s).record = s.record ∧
    (engineFreed s).agu = s.agu ∧
    (engineFreed s).tbs = s.tbs ∧
    (engineFreed s).fca = s.fca ∧
    (engineFreed s).conditions = s.conditions ∧
    (engineFreed s).settings = s.settings ∧
    (engineFreed s).lpt = s.lpt ∧
    (engineFreed s).stl = s.stl ∧
    (engineFreed s).microseconds = s.microseconds ∧
    (engineFreed s).freeCount = s.freeCount ∧
    (engineFreed s).pending = s.pending ∧
    (engineFreed s).dre.gate = s.dre.gate := by
  unfold engineFreed
  ((try dsimp only) <;> (repeat' split) <;> (try rfl) <;> simp)

@[simp] theorem engineReadsColumn_frame (s : State) :
    (engineReadsColumn s).rsc = s.rsc ∧
    (engineReadsColumn s).record = s.record ∧
    (engineReadsColumn s).agu = s.agu ∧
    (engineReadsColumn s).tbs = s.tbs ∧
    (engineReadsColumn s).fca = s.fca ∧
    (engineReadsColumn s).conditions = s.conditions ∧
    (engineReadsColumn s).settings = s.settings ∧
    (engineReadsColumn s).stl = s.stl ∧
    (engineReadsColumn s).microseconds = s.microseconds ∧
    (engineReadsColumn s).freeCount = s.freeCount ∧
    (engineReadsColumn s).pending = s.pending ∧
    (engineReadsColumn s).lkc.sending = s.lkc.sending ∧
    (engineReadsColumn s).lkc.discarding = s.lkc.discarding ∧
    (engineReadsColumn s).lpt.mask = s.lpt.mask ∧
    (engineReadsColumn s).lpt.answer = s.lpt.answer ∧
    (engineReadsColumn s).lpt.holdRequest = s.lpt.holdRequest ∧
    (engineReadsColumn s).lpt.access = s.lpt.access ∧
    (engineReadsColumn s).lpt.configDigest = s.lpt.configDigest := by
  unfold engineReadsColumn
  ((try dsimp only) <;> (repeat' split) <;> (try rfl) <;> simp)

@[simp] theorem declareHangup_frame (s : State) :
    (declareHangup s).rsc = s.rsc ∧
    (declareHangup s).record = s.record ∧
    (declareHangup s).agu = s.agu ∧
    (declareHangup s).tbs = s.tbs ∧
    (declareHangup s).fca = s.fca ∧
    (declareHangup s).conditions = s.conditions ∧
    (declareHangup s).settings = s.settings ∧
    (declareHangup s).stl = s.stl ∧
    (declareHangup s).microseconds = s.microseconds ∧
    (declareHangup s).freeCount = s.freeCount ∧
    (declareHangup s).pending = s.pending ∧
    (declareHangup s).lkc.sending = s.lkc.sending ∧
    (declareHangup s).lkc.discarding = s.lkc.discarding ∧
    (declareHangup s).lpt.mask = s.lpt.mask ∧
    (declareHangup s).lpt.answer = s.lpt.answer ∧
    (declareHangup s).lpt.holdRequest = s.lpt.holdRequest ∧
    (declareHangup s).lpt.access = s.lpt.access ∧
    (declareHangup s).lpt.configDigest = s.lpt.configDigest := by
  unfold declareHangup
  ((try dsimp only) <;> (repeat' split) <;> (try rfl) <;> simp)

@[simp] theorem engineCauses_frame (s : State) :
    (engineCauses s).lkc = s.lkc ∧
    (engineCauses s).rsc = s.rsc ∧
    (engineCauses s).record = s.record ∧
    (engineCauses s).agu = s.agu ∧
    (engineCauses s).tbs = s.tbs ∧
    (engineCauses s).fca = s.fca ∧
    (engineCauses s).conditions = s.conditions ∧
    (engineCauses s).settings = s.settings ∧
    (engineCauses s).stl = s.stl ∧
    (engineCauses s).microseconds = s.microseconds ∧
    (engineCauses s).freeCount = s.freeCount ∧
    (engineCauses s).pending = s.pending ∧
    (engineCauses s).lpt.mask = s.lpt.mask ∧
    (engineCauses s).lpt.answer = s.lpt.answer ∧
    (engineCauses s).lpt.holdRequest = s.lpt.holdRequest ∧
    (engineCauses s).lpt.access = s.lpt.access ∧
    (engineCauses s).lpt.configDigest = s.lpt.configDigest := by
  unfold engineCauses
  ((try dsimp only) <;> (repeat' split) <;> (try rfl) <;> simp)

@[simp] theorem engineRise_frame (s : State) :
    (engineRise s).rsc = s.rsc ∧
    (engineRise s).record = s.record ∧
    (engineRise s).agu = s.agu ∧
    (engineRise s).tbs = s.tbs ∧
    (engineRise s).fca = s.fca ∧
    (engineRise s).conditions = s.conditions ∧
    (engineRise s).settings = s.settings ∧
    (engineRise s).stl = s.stl ∧
    (engineRise s).microseconds = s.microseconds ∧
    (engineRise s).freeCount = s.freeCount ∧
    (engineRise s).pending = s.pending ∧
    (engineRise s).lkc.sending = s.lkc.sending ∧
    (engineRise s).lkc.discarding = s.lkc.discarding ∧
    (engineRise s).lpt.mask = s.lpt.mask ∧
    (engineRise s).lpt.answer = s.lpt.answer ∧
    (engineRise s).lpt.holdRequest = s.lpt.holdRequest ∧
    (engineRise s).lpt.access = s.lpt.access ∧
    (engineRise s).lpt.configDigest = s.lpt.configDigest := by
  unfold engineRise
  ((try dsimp only) <;> (repeat' split) <;> (try rfl) <;> simp)

@[simp] theorem engineHalted_frame (s : State) :
    (engineHalted s).lkc = s.lkc ∧
    (engineHalted s).rsc = s.rsc ∧
    (engineHalted s).record = s.record ∧
    (engineHalted s).agu = s.agu ∧
    (engineHalted s).tbs = s.tbs ∧
    (engineHalted s).fca = s.fca ∧
    (engineHalted s).conditions = s.conditions ∧
    (engineHalted s).settings = s.settings ∧
    (engineHalted s).stl = s.stl ∧
    (engineHalted s).microseconds = s.microseconds ∧
    (engineHalted s).freeCount = s.freeCount ∧
    (engineHalted s).pending = s.pending ∧
    (engineHalted s).dre.gate = s.dre.gate ∧
    (engineHalted s).lpt.mask = s.lpt.mask ∧
    (engineHalted s).lpt.answer = s.lpt.answer ∧
    (engineHalted s).lpt.holdRequest = s.lpt.holdRequest ∧
    (engineHalted s).lpt.access = s.lpt.access ∧
    (engineHalted s).lpt.configDigest = s.lpt.configDigest := by
  unfold engineHalted
  ((try dsimp only) <;> (repeat' split) <;> (try rfl) <;> simp)

@[simp] theorem engineUnfault_frame (s : State) :
    (engineUnfault s).lkc = s.lkc ∧
    (engineUnfault s).rsc = s.rsc ∧
    (engineUnfault s).record = s.record ∧
    (engineUnfault s).agu = s.agu ∧
    (engineUnfault s).tbs = s.tbs ∧
    (engineUnfault s).fca = s.fca ∧
    (engineUnfault s).conditions = s.conditions ∧
    (engineUnfault s).settings = s.settings ∧
    (engineUnfault s).lpt = s.lpt ∧
    (engineUnfault s).stl = s.stl ∧
    (engineUnfault s).microseconds = s.microseconds ∧
    (engineUnfault s).freeCount = s.freeCount ∧
    (engineUnfault s).pending = s.pending ∧
    (engineUnfault s).dre.gate = s.dre.gate := by
  unfold engineUnfault
  ((try dsimp only) <;> (repeat' split) <;> (try rfl) <;> simp)

@[simp] theorem gateLaw_frame (s : State) :
    (gateLaw s).lkc = s.lkc ∧
    (gateLaw s).rsc = s.rsc ∧
    (gateLaw s).record = s.record ∧
    (gateLaw s).agu = s.agu ∧
    (gateLaw s).tbs = s.tbs ∧
    (gateLaw s).fca = s.fca ∧
    (gateLaw s).conditions = s.conditions ∧
    (gateLaw s).settings = s.settings ∧
    (gateLaw s).stl = s.stl ∧
    (gateLaw s).microseconds = s.microseconds ∧
    (gateLaw s).freeCount = s.freeCount ∧
    (gateLaw s).pending = s.pending ∧
    (gateLaw s).dre.state = s.dre.state ∧
    (gateLaw s).lpt.mask = s.lpt.mask ∧
    (gateLaw s).lpt.answer = s.lpt.answer ∧
    (gateLaw s).lpt.holdRequest = s.lpt.holdRequest ∧
    (gateLaw s).lpt.access = s.lpt.access ∧
    (gateLaw s).lpt.configDigest = s.lpt.configDigest := by
  unfold gateLaw
  ((try dsimp only) <;> (repeat' split) <;> (try rfl) <;> simp)

end Sys2Proof.Machine
end

