-- ==== Sys2Proof/Laws/Outcomes.lean ====
section
/-! SUPPORT. Frames of the operations of Machine/Outcomes.lean: what each leaves as it was. -/

namespace Sys2Proof.Machine

/-- An outcome moves the state and the last result of the sequencer alone. -/
@[simp] theorem tbsHanded_frame (h : Handed) (t : Tbs) :
    (t.handed h).claimInQueue = t.claimInQueue ∧ (t.handed h).closing = t.closing ∧
    (t.handed h).ahead = t.ahead ∧ (t.handed h).pendingEnd = t.pendingEnd ∧
    (t.handed h).output = t.output ∧ (t.handed h).keptRelease = t.keptRelease := by
  unfold Tbs.handed
  ((repeat' split) <;> simp)

/-- An outcome that comes while the own CLAIM is queued leaves an asking sequencer as it is. -/
theorem tbsHanded_stray (h : Handed) (t : Tbs) (asks : t.state = .asking) (queued : t.claimInQueue = true) :
    t.handed h = t := by
  cases h <;> simp [Tbs.handed, asks, queued]

/-- The same at an asking access sub-state. -/
theorem accessHanded_stray (h : Handed) (l : Lpt) (asks : l.access = .asking) (queued : l.accessClaim = true) :
    l.accessHanded h = l := by
  cases h <;> simp [Lpt.accessHanded, asks, queued]

/-- An outcome moves the access sub-state alone. -/
@[simp] theorem accessHanded_frame (h : Handed) (l : Lpt) :
    (l.accessHanded h).notices = l.notices ∧ (l.accessHanded h).mask = l.mask ∧
    (l.accessHanded h).countdown = l.countdown ∧ (l.accessHanded h).holdRequest = l.holdRequest ∧
    (l.accessHanded h).configDigest = l.configDigest ∧ (l.accessHanded h).answer = l.answer ∧
    (l.accessHanded h).readData = l.readData ∧ (l.accessHanded h).accessClaim = l.accessClaim := by
  unfold Lpt.accessHanded
  ((repeat' split) <;> simp)

@[simp] theorem engineHanded_frame (h : Handed) (s : State) :
    (engineHanded h s).rsc = s.rsc ∧
    (engineHanded h s).record = s.record ∧
    (engineHanded h s).agu = s.agu ∧
    (engineHanded h s).tbs = s.tbs ∧
    (engineHanded h s).fca = s.fca ∧
    (engineHanded h s).conditions = s.conditions ∧
    (engineHanded h s).settings = s.settings ∧
    (engineHanded h s).stl = s.stl ∧
    (engineHanded h s).microseconds = s.microseconds ∧
    (engineHanded h s).freeCount = s.freeCount ∧
    (engineHanded h s).pending = s.pending ∧
    (engineHanded h s).lkc.sending = s.lkc.sending ∧
    (engineHanded h s).lkc.discarding = s.lkc.discarding ∧
    (engineHanded h s).lpt.mask = s.lpt.mask ∧
    (engineHanded h s).lpt.answer = s.lpt.answer ∧
    (engineHanded h s).lpt.holdRequest = s.lpt.holdRequest ∧
    (engineHanded h s).lpt.access = s.lpt.access ∧
    (engineHanded h s).lpt.configDigest = s.lpt.configDigest := by
  unfold engineHanded
  ((try dsimp only) <;> (repeat' split) <;> (try rfl) <;> simp)

@[simp] theorem hand_frame (h : Handed) (row : Row) (s : State) :
    (hand h row s).rsc = s.rsc ∧
    (hand h row s).record = s.record ∧
    (hand h row s).agu = s.agu ∧
    (hand h row s).fca = s.fca ∧
    (hand h row s).conditions = s.conditions ∧
    (hand h row s).settings = s.settings ∧
    (hand h row s).stl = s.stl ∧
    (hand h row s).microseconds = s.microseconds ∧
    (hand h row s).freeCount = s.freeCount ∧
    (hand h row s).pending = s.pending ∧
    (hand h row s).lkc.sending = s.lkc.sending ∧
    (hand h row s).lkc.discarding = s.lkc.discarding ∧
    (hand h row s).lpt.mask = s.lpt.mask ∧
    (hand h row s).lpt.answer = s.lpt.answer ∧
    (hand h row s).lpt.holdRequest = s.lpt.holdRequest ∧
    (hand h row s).lpt.configDigest = s.lpt.configDigest := by
  unfold hand
  ((try dsimp only) <;> (repeat' split) <;> (try rfl) <;> simp)

@[simp] theorem handLost_frame (rows : List Row) (s : State) :
    (handLost rows s).rsc = s.rsc ∧
    (handLost rows s).record = s.record ∧
    (handLost rows s).agu = s.agu ∧
    (handLost rows s).fca = s.fca ∧
    (handLost rows s).conditions = s.conditions ∧
    (handLost rows s).settings = s.settings ∧
    (handLost rows s).stl = s.stl ∧
    (handLost rows s).microseconds = s.microseconds ∧
    (handLost rows s).freeCount = s.freeCount ∧
    (handLost rows s).pending = s.pending ∧
    (handLost rows s).lkc.sending = s.lkc.sending ∧
    (handLost rows s).lkc.discarding = s.lkc.discarding ∧
    (handLost rows s).lpt.mask = s.lpt.mask ∧
    (handLost rows s).lpt.answer = s.lpt.answer ∧
    (handLost rows s).lpt.holdRequest = s.lpt.holdRequest ∧
    (handLost rows s).lpt.configDigest = s.lpt.configDigest := by
  refine ⟨?_, ?_, ?_, ?_, ?_, ?_, ?_, ?_, ?_, ?_, ?_, ?_, ?_, ?_, ?_, ?_⟩
  · unfold handLost; refine foldl_keeps (fun s => s.rsc) _ ?_ _ _; intro s x; ((try dsimp only) <;> (repeat' split) <;> (try rfl) <;> simp)
  · unfold handLost; refine foldl_keeps (fun s => s.record) _ ?_ _ _; intro s x; ((try dsimp only) <;> (repeat' split) <;> (try rfl) <;> simp)
  · unfold handLost; refine foldl_keeps (fun s => s.agu) _ ?_ _ _; intro s x; ((try dsimp only) <;> (repeat' split) <;> (try rfl) <;> simp)
  · unfold handLost; refine foldl_keeps (fun s => s.fca) _ ?_ _ _; intro s x; ((try dsimp only) <;> (repeat' split) <;> (try rfl) <;> simp)
  · unfold handLost; refine foldl_keeps (fun s => s.conditions) _ ?_ _ _; intro s x; ((try dsimp only) <;> (repeat' split) <;> (try rfl) <;> simp)
  · unfold handLost; refine foldl_keeps (fun s => s.settings) _ ?_ _ _; intro s x; ((try dsimp only) <;> (repeat' split) <;> (try rfl) <;> simp)
  · unfold handLost; refine foldl_keeps (fun s => s.stl) _ ?_ _ _; intro s x; ((try dsimp only) <;> (repeat' split) <;> (try rfl) <;> simp)
  · unfold handLost; refine foldl_keeps (fun s => s.microseconds) _ ?_ _ _; intro s x; ((try dsimp only) <;> (repeat' split) <;> (try rfl) <;> simp)
  · unfold handLost; refine foldl_keeps (fun s => s.freeCount) _ ?_ _ _; intro s x; ((try dsimp only) <;> (repeat' split) <;> (try rfl) <;> simp)
  · unfold handLost; refine foldl_keeps (fun s => s.pending) _ ?_ _ _; intro s x; ((try dsimp only) <;> (repeat' split) <;> (try rfl) <;> simp)
  · unfold handLost; refine foldl_keeps (fun s => s.lkc.sending) _ ?_ _ _; intro s x; ((try dsimp only) <;> (repeat' split) <;> (try rfl) <;> simp)
  · unfold handLost; refine foldl_keeps (fun s => s.lkc.discarding) _ ?_ _ _; intro s x; ((try dsimp only) <;> (repeat' split) <;> (try rfl) <;> simp)
  · unfold handLost; refine foldl_keeps (fun s => s.lpt.mask) _ ?_ _ _; intro s x; ((try dsimp only) <;> (repeat' split) <;> (try rfl) <;> simp)
  · unfold handLost; refine foldl_keeps (fun s => s.lpt.answer) _ ?_ _ _; intro s x; ((try dsimp only) <;> (repeat' split) <;> (try rfl) <;> simp)
  · unfold handLost; refine foldl_keeps (fun s => s.lpt.holdRequest) _ ?_ _ _; intro s x; ((try dsimp only) <;> (repeat' split) <;> (try rfl) <;> simp)
  · unfold handLost; refine foldl_keeps (fun s => s.lpt.configDigest) _ ?_ _ _; intro s x; ((try dsimp only) <;> (repeat' split) <;> (try rfl) <;> simp)

@[simp] theorem handRefused_frame (entries : List WaitEntry) (s : State) :
    (handRefused entries s).rsc = s.rsc ∧
    (handRefused entries s).record = s.record ∧
    (handRefused entries s).agu = s.agu ∧
    (handRefused entries s).fca = s.fca ∧
    (handRefused entries s).conditions = s.conditions ∧
    (handRefused entries s).settings = s.settings ∧
    (handRefused entries s).stl = s.stl ∧
    (handRefused entries s).microseconds = s.microseconds ∧
    (handRefused entries s).freeCount = s.freeCount ∧
    (handRefused entries s).pending = s.pending ∧
    (handRefused entries s).lkc.sending = s.lkc.sending ∧
    (handRefused entries s).lkc.discarding = s.lkc.discarding ∧
    (handRefused entries s).lpt.mask = s.lpt.mask ∧
    (handRefused entries s).lpt.answer = s.lpt.answer ∧
    (handRefused entries s).lpt.holdRequest = s.lpt.holdRequest ∧
    (handRefused entries s).lpt.configDigest = s.lpt.configDigest := by
  refine ⟨?_, ?_, ?_, ?_, ?_, ?_, ?_, ?_, ?_, ?_, ?_, ?_, ?_, ?_, ?_, ?_⟩
  · unfold handRefused; refine foldl_keeps (fun s => s.rsc) _ ?_ _ _; intro s x; ((try dsimp only) <;> (repeat' split) <;> (try rfl) <;> simp)
  · unfold handRefused; refine foldl_keeps (fun s => s.record) _ ?_ _ _; intro s x; ((try dsimp only) <;> (repeat' split) <;> (try rfl) <;> simp)
  · unfold handRefused; refine foldl_keeps (fun s => s.agu) _ ?_ _ _; intro s x; ((try dsimp only) <;> (repeat' split) <;> (try rfl) <;> simp)
  · unfold handRefused; refine foldl_keeps (fun s => s.fca) _ ?_ _ _; intro s x; ((try dsimp only) <;> (repeat' split) <;> (try rfl) <;> simp)
  · unfold handRefused; refine foldl_keeps (fun s => s.conditions) _ ?_ _ _; intro s x; ((try dsimp only) <;> (repeat' split) <;> (try rfl) <;> simp)
  · unfold handRefused; refine foldl_keeps (fun s => s.settings) _ ?_ _ _; intro s x; ((try dsimp only) <;> (repeat' split) <;> (try rfl) <;> simp)
  · unfold handRefused; refine foldl_keeps (fun s => s.stl) _ ?_ _ _; intro s x; ((try dsimp only) <;> (repeat' split) <;> (try rfl) <;> simp)
  · unfold handRefused; refine foldl_keeps (fun s => s.microseconds) _ ?_ _ _; intro s x; ((try dsimp only) <;> (repeat' split) <;> (try rfl) <;> simp)
  · unfold handRefused; refine foldl_keeps (fun s => s.freeCount) _ ?_ _ _; intro s x; ((try dsimp only) <;> (repeat' split) <;> (try rfl) <;> simp)
  · unfold handRefused; refine foldl_keeps (fun s => s.pending) _ ?_ _ _; intro s x; ((try dsimp only) <;> (repeat' split) <;> (try rfl) <;> simp)
  · unfold handRefused; refine foldl_keeps (fun s => s.lkc.sending) _ ?_ _ _; intro s x; ((try dsimp only) <;> (repeat' split) <;> (try rfl) <;> simp)
  · unfold handRefused; refine foldl_keeps (fun s => s.lkc.discarding) _ ?_ _ _; intro s x; ((try dsimp only) <;> (repeat' split) <;> (try rfl) <;> simp)
  · unfold handRefused; refine foldl_keeps (fun s => s.lpt.mask) _ ?_ _ _; intro s x; ((try dsimp only) <;> (repeat' split) <;> (try rfl) <;> simp)
  · unfold handRefused; refine foldl_keeps (fun s => s.lpt.answer) _ ?_ _ _; intro s x; ((try dsimp only) <;> (repeat' split) <;> (try rfl) <;> simp)
  · unfold handRefused; refine foldl_keeps (fun s => s.lpt.holdRequest) _ ?_ _ _; intro s x; ((try dsimp only) <;> (repeat' split) <;> (try rfl) <;> simp)
  · unfold handRefused; refine foldl_keeps (fun s => s.lpt.configDigest) _ ?_ _ _; intro s x; ((try dsimp only) <;> (repeat' split) <;> (try rfl) <;> simp)

@[simp] theorem handGranted_frame (entries : List WaitEntry) (s : State) :
    (handGranted entries s).rsc = s.rsc ∧
    (handGranted entries s).record = s.record ∧
    (handGranted entries s).agu = s.agu ∧
    (handGranted entries s).fca = s.fca ∧
    (handGranted entries s).conditions = s.conditions ∧
    (handGranted entries s).settings = s.settings ∧
    (handGranted entries s).stl = s.stl ∧
    (handGranted entries s).microseconds = s.microseconds ∧
    (handGranted entries s).freeCount = s.freeCount ∧
    (handGranted entries s).pending = s.pending ∧
    (handGranted entries s).lkc.sending = s.lkc.sending ∧
    (handGranted entries s).lkc.discarding = s.lkc.discarding ∧
    (handGranted entries s).lpt.mask = s.lpt.mask ∧
    (handGranted entries s).lpt.answer = s.lpt.answer ∧
    (handGranted entries s).lpt.holdRequest = s.lpt.holdRequest ∧
    (handGranted entries s).lpt.configDigest = s.lpt.configDigest := by
  refine ⟨?_, ?_, ?_, ?_, ?_, ?_, ?_, ?_, ?_, ?_, ?_, ?_, ?_, ?_, ?_, ?_⟩
  · unfold handGranted; refine foldl_keeps (fun s => s.rsc) _ ?_ _ _; intro s x; ((try dsimp only) <;> (repeat' split) <;> (try rfl) <;> simp)
  · unfold handGranted; refine foldl_keeps (fun s => s.record) _ ?_ _ _; intro s x; ((try dsimp only) <;> (repeat' split) <;> (try rfl) <;> simp)
  · unfold handGranted; refine foldl_keeps (fun s => s.agu) _ ?_ _ _; intro s x; ((try dsimp only) <;> (repeat' split) <;> (try rfl) <;> simp)
  · unfold handGranted; refine foldl_keeps (fun s => s.fca) _ ?_ _ _; intro s x; ((try dsimp only) <;> (repeat' split) <;> (try rfl) <;> simp)
  · unfold handGranted; refine foldl_keeps (fun s => s.conditions) _ ?_ _ _; intro s x; ((try dsimp only) <;> (repeat' split) <;> (try rfl) <;> simp)
  · unfold handGranted; refine foldl_keeps (fun s => s.settings) _ ?_ _ _; intro s x; ((try dsimp only) <;> (repeat' split) <;> (try rfl) <;> simp)
  · unfold handGranted; refine foldl_keeps (fun s => s.stl) _ ?_ _ _; intro s x; ((try dsimp only) <;> (repeat' split) <;> (try rfl) <;> simp)
  · unfold handGranted; refine foldl_keeps (fun s => s.microseconds) _ ?_ _ _; intro s x; ((try dsimp only) <;> (repeat' split) <;> (try rfl) <;> simp)
  · unfold handGranted; refine foldl_keeps (fun s => s.freeCount) _ ?_ _ _; intro s x; ((try dsimp only) <;> (repeat' split) <;> (try rfl) <;> simp)
  · unfold handGranted; refine foldl_keeps (fun s => s.pending) _ ?_ _ _; intro s x; ((try dsimp only) <;> (repeat' split) <;> (try rfl) <;> simp)
  · unfold handGranted; refine foldl_keeps (fun s => s.lkc.sending) _ ?_ _ _; intro s x; ((try dsimp only) <;> (repeat' split) <;> (try rfl) <;> simp)
  · unfold handGranted; refine foldl_keeps (fun s => s.lkc.discarding) _ ?_ _ _; intro s x; ((try dsimp only) <;> (repeat' split) <;> (try rfl) <;> simp)
  · unfold handGranted; refine foldl_keeps (fun s => s.lpt.mask) _ ?_ _ _; intro s x; ((try dsimp only) <;> (repeat' split) <;> (try rfl) <;> simp)
  · unfold handGranted; refine foldl_keeps (fun s => s.lpt.answer) _ ?_ _ _; intro s x; ((try dsimp only) <;> (repeat' split) <;> (try rfl) <;> simp)
  · unfold handGranted; refine foldl_keeps (fun s => s.lpt.holdRequest) _ ?_ _ _; intro s x; ((try dsimp only) <;> (repeat' split) <;> (try rfl) <;> simp)
  · unfold handGranted; refine foldl_keeps (fun s => s.lpt.configDigest) _ ?_ _ _; intro s x; ((try dsimp only) <;> (repeat' split) <;> (try rfl) <;> simp)

@[simp] theorem runScan_frame (s : State) :
    (runScan s).rsc = s.rsc ∧
    (runScan s).agu = s.agu ∧
    (runScan s).fca = s.fca ∧
    (runScan s).conditions = s.conditions ∧
    (runScan s).settings = s.settings ∧
    (runScan s).stl = s.stl ∧
    (runScan s).microseconds = s.microseconds ∧
    (runScan s).freeCount = s.freeCount ∧
    (runScan s).pending = s.pending ∧
    (runScan s).lkc.sending = s.lkc.sending ∧
    (runScan s).lkc.discarding = s.lkc.discarding ∧
    (runScan s).lpt.mask = s.lpt.mask ∧
    (runScan s).lpt.answer = s.lpt.answer ∧
    (runScan s).lpt.holdRequest = s.lpt.holdRequest ∧
    (runScan s).lpt.configDigest = s.lpt.configDigest := by
  unfold runScan
  ((try dsimp only) <;> (repeat' split) <;> (try rfl) <;> simp)

@[simp] theorem sequencerReads_frame (s : State) :
    (sequencerReads s).lkc = s.lkc ∧
    (sequencerReads s).rsc = s.rsc ∧
    (sequencerReads s).record = s.record ∧
    (sequencerReads s).agu = s.agu ∧
    (sequencerReads s).dre = s.dre ∧
    (sequencerReads s).fca = s.fca ∧
    (sequencerReads s).conditions = s.conditions ∧
    (sequencerReads s).settings = s.settings ∧
    (sequencerReads s).stl = s.stl ∧
    (sequencerReads s).microseconds = s.microseconds ∧
    (sequencerReads s).freeCount = s.freeCount ∧
    (sequencerReads s).pending = s.pending ∧
    (sequencerReads s).lpt.mask = s.lpt.mask ∧
    (sequencerReads s).lpt.answer = s.lpt.answer ∧
    (sequencerReads s).lpt.holdRequest = s.lpt.holdRequest ∧
    (sequencerReads s).lpt.access = s.lpt.access ∧
    (sequencerReads s).lpt.configDigest = s.lpt.configDigest := by
  unfold sequencerReads
  ((try dsimp only) <;> (repeat' split) <;> (try rfl) <;> simp)

@[simp] theorem accessReads_frame (s : State) :
    (accessReads s).lkc = s.lkc ∧
    (accessReads s).rsc = s.rsc ∧
    (accessReads s).record = s.record ∧
    (accessReads s).agu = s.agu ∧
    (accessReads s).tbs = s.tbs ∧
    (accessReads s).dre = s.dre ∧
    (accessReads s).fca = s.fca ∧
    (accessReads s).conditions = s.conditions ∧
    (accessReads s).settings = s.settings ∧
    (accessReads s).stl = s.stl ∧
    (accessReads s).microseconds = s.microseconds ∧
    (accessReads s).freeCount = s.freeCount ∧
    (accessReads s).pending = s.pending ∧
    (accessReads s).lpt.mask = s.lpt.mask ∧
    (accessReads s).lpt.answer = s.lpt.answer ∧
    (accessReads s).lpt.holdRequest = s.lpt.holdRequest ∧
    (accessReads s).lpt.configDigest = s.lpt.configDigest := by
  unfold accessReads
  ((try dsimp only) <;> (repeat' split) <;> (try rfl) <;> simp)

@[simp] theorem engineReads_frame (s : State) :
    (engineReads s).rsc = s.rsc ∧
    (engineReads s).record = s.record ∧
    (engineReads s).agu = s.agu ∧
    (engineReads s).tbs = s.tbs ∧
    (engineReads s).fca = s.fca ∧
    (engineReads s).conditions = s.conditions ∧
    (engineReads s).settings = s.settings ∧
    (engineReads s).stl = s.stl ∧
    (engineReads s).microseconds = s.microseconds ∧
    (engineReads s).freeCount = s.freeCount ∧
    (engineReads s).pending = s.pending ∧
    (engineReads s).lkc.sending = s.lkc.sending ∧
    (engineReads s).lkc.discarding = s.lkc.discarding ∧
    (engineReads s).lpt.mask = s.lpt.mask ∧
    (engineReads s).lpt.answer = s.lpt.answer ∧
    (engineReads s).lpt.holdRequest = s.lpt.holdRequest ∧
    (engineReads s).lpt.access = s.lpt.access ∧
    (engineReads s).lpt.configDigest = s.lpt.configDigest := by
  unfold engineReads
  ((try dsimp only) <;> (repeat' split) <;> (try rfl) <;> simp)

@[simp] theorem readInstalled_frame (s : State) :
    (readInstalled s).rsc = s.rsc ∧
    (readInstalled s).record = s.record ∧
    (readInstalled s).agu = s.agu ∧
    (readInstalled s).fca = s.fca ∧
    (readInstalled s).conditions = s.conditions ∧
    (readInstalled s).settings = s.settings ∧
    (readInstalled s).stl = s.stl ∧
    (readInstalled s).microseconds = s.microseconds ∧
    (readInstalled s).freeCount = s.freeCount ∧
    (readInstalled s).pending = s.pending ∧
    (readInstalled s).lkc.sending = s.lkc.sending ∧
    (readInstalled s).lkc.discarding = s.lkc.discarding ∧
    (readInstalled s).lpt.mask = s.lpt.mask ∧
    (readInstalled s).lpt.answer = s.lpt.answer ∧
    (readInstalled s).lpt.holdRequest = s.lpt.holdRequest ∧
    (readInstalled s).lpt.configDigest = s.lpt.configDigest := by
  unfold readInstalled
  ((try dsimp only) <;> (repeat' split) <;> (try rfl) <;> simp)

end Sys2Proof.Machine
end

