-- ==== Sys2Proof/Laws/Faults.lean ====
section
/-! SUPPORT. Frames of the operations of Machine/Faults.lean: what each leaves as it was. -/

namespace Sys2Proof.Machine

@[simp] theorem handDiscard_frame (row : Row) (s : State) :
    (handDiscard row s).lkc = s.lkc ∧
    (handDiscard row s).rsc = s.rsc ∧
    (handDiscard row s).record = s.record ∧
    (handDiscard row s).agu = s.agu ∧
    (handDiscard row s).fca = s.fca ∧
    (handDiscard row s).conditions = s.conditions ∧
    (handDiscard row s).settings = s.settings ∧
    (handDiscard row s).stl = s.stl ∧
    (handDiscard row s).microseconds = s.microseconds ∧
    (handDiscard row s).freeCount = s.freeCount ∧
    (handDiscard row s).pending = s.pending ∧
    (handDiscard row s).dre.gate = s.dre.gate ∧
    (handDiscard row s).lpt.mask = s.lpt.mask ∧
    (handDiscard row s).lpt.answer = s.lpt.answer ∧
    (handDiscard row s).lpt.holdRequest = s.lpt.holdRequest ∧
    (handDiscard row s).lpt.configDigest = s.lpt.configDigest := by
  unfold handDiscard
  ((try dsimp only) <;> (repeat' split) <;> (try rfl) <;> simp)

@[simp] theorem discardClaims_frame (s : State) :
    (discardClaims s).rsc = s.rsc ∧
    (discardClaims s).record = s.record ∧
    (discardClaims s).agu = s.agu ∧
    (discardClaims s).fca = s.fca ∧
    (discardClaims s).settings = s.settings ∧
    (discardClaims s).stl = s.stl ∧
    (discardClaims s).microseconds = s.microseconds ∧
    (discardClaims s).freeCount = s.freeCount ∧
    (discardClaims s).pending = s.pending ∧
    (discardClaims s).lkc.sending = s.lkc.sending ∧
    (discardClaims s).lkc.discarding = s.lkc.discarding ∧
    (discardClaims s).dre.gate = s.dre.gate ∧
    (discardClaims s).lpt.mask = s.lpt.mask ∧
    (discardClaims s).lpt.answer = s.lpt.answer ∧
    (discardClaims s).lpt.holdRequest = s.lpt.holdRequest ∧
    (discardClaims s).lpt.configDigest = s.lpt.configDigest := by
  refine ⟨?_, ?_, ?_, ?_, ?_, ?_, ?_, ?_, ?_, ?_, ?_, ?_, ?_, ?_, ?_, ?_⟩
  · have h := foldl_keeps (fun s => s.rsc) (fun s row => handDiscard row s) (fun s x => by simp); unfold discardClaims; dsimp only; simp; rw [h]; split <;> simp
  · have h := foldl_keeps (fun s => s.record) (fun s row => handDiscard row s) (fun s x => by simp); unfold discardClaims; dsimp only; simp; rw [h]; split <;> simp
  · have h := foldl_keeps (fun s => s.agu) (fun s row => handDiscard row s) (fun s x => by simp); unfold discardClaims; dsimp only; simp; rw [h]; split <;> simp
  · have h := foldl_keeps (fun s => s.fca) (fun s row => handDiscard row s) (fun s x => by simp); unfold discardClaims; dsimp only; simp; rw [h]; split <;> simp
  · have h := foldl_keeps (fun s => s.settings) (fun s row => handDiscard row s) (fun s x => by simp); unfold discardClaims; dsimp only; simp; rw [h]; split <;> simp
  · have h := foldl_keeps (fun s => s.stl) (fun s row => handDiscard row s) (fun s x => by simp); unfold discardClaims; dsimp only; simp; rw [h]; split <;> simp
  · have h := foldl_keeps (fun s => s.microseconds) (fun s row => handDiscard row s) (fun s x => by simp); unfold discardClaims; dsimp only; simp; rw [h]; split <;> simp
  · have h := foldl_keeps (fun s => s.freeCount) (fun s row => handDiscard row s) (fun s x => by simp); unfold discardClaims; dsimp only; simp; rw [h]; split <;> simp
  · have h := foldl_keeps (fun s => s.pending) (fun s row => handDiscard row s) (fun s x => by simp); unfold discardClaims; dsimp only; simp; rw [h]; split <;> simp
  · have h := foldl_keeps (fun s => s.lkc.sending) (fun s row => handDiscard row s) (fun s x => by simp); unfold discardClaims; dsimp only; simp; rw [h]; split <;> simp
  · have h := foldl_keeps (fun s => s.lkc.discarding) (fun s row => handDiscard row s) (fun s x => by simp); unfold discardClaims; dsimp only; simp; rw [h]; split <;> simp
  · have h := foldl_keeps (fun s => s.dre.gate) (fun s row => handDiscard row s) (fun s x => by simp); unfold discardClaims; dsimp only; simp; rw [h]; split <;> simp
  · have h := foldl_keeps (fun s => s.lpt.mask) (fun s row => handDiscard row s) (fun s x => by simp); unfold discardClaims; dsimp only; simp; rw [h]; split <;> simp
  · have h := foldl_keeps (fun s => s.lpt.answer) (fun s row => handDiscard row s) (fun s x => by simp); unfold discardClaims; dsimp only; simp; rw [h]; split <;> simp
  · have h := foldl_keeps (fun s => s.lpt.holdRequest) (fun s row => handDiscard row s) (fun s x => by simp); unfold discardClaims; dsimp only; simp; rw [h]; split <;> simp
  · have h := foldl_keeps (fun s => s.lpt.configDigest) (fun s row => handDiscard row s) (fun s x => by simp); unfold discardClaims; dsimp only; simp; rw [h]; split <;> simp

@[simp] theorem enterHalted_frame (s : State) :
    (enterHalted s).record = s.record ∧
    (enterHalted s).agu = s.agu ∧
    (enterHalted s).settings = s.settings ∧
    (enterHalted s).stl = s.stl ∧
    (enterHalted s).microseconds = s.microseconds ∧
    (enterHalted s).freeCount = s.freeCount ∧
    (enterHalted s).pending = s.pending ∧
    (enterHalted s).lkc.discarding = s.lkc.discarding ∧
    (enterHalted s).rsc.roundTime = s.rsc.roundTime ∧
    (enterHalted s).rsc.paused = s.rsc.paused ∧
    (enterHalted s).rsc.span = s.rsc.span ∧
    (enterHalted s).dre.gate = s.dre.gate ∧
    (enterHalted s).lpt.mask = s.lpt.mask ∧
    (enterHalted s).lpt.answer = s.lpt.answer ∧
    (enterHalted s).lpt.holdRequest = s.lpt.holdRequest ∧
    (enterHalted s).lpt.configDigest = s.lpt.configDigest ∧
    (enterHalted s).fca.sightingCount = s.fca.sightingCount := by
  unfold enterHalted
  ((try dsimp only) <;> (repeat' split) <;> (try rfl) <;> simp)

@[simp] theorem raiseCondition_frame (c : Condition) (s : State) :
    (raiseCondition c s).record = s.record ∧
    (raiseCondition c s).agu = s.agu ∧
    (raiseCondition c s).settings = s.settings ∧
    (raiseCondition c s).stl = s.stl ∧
    (raiseCondition c s).microseconds = s.microseconds ∧
    (raiseCondition c s).freeCount = s.freeCount ∧
    (raiseCondition c s).pending = s.pending ∧
    (raiseCondition c s).lkc.discarding = s.lkc.discarding ∧
    (raiseCondition c s).rsc.roundTime = s.rsc.roundTime ∧
    (raiseCondition c s).rsc.paused = s.rsc.paused ∧
    (raiseCondition c s).rsc.span = s.rsc.span ∧
    (raiseCondition c s).lpt.mask = s.lpt.mask ∧
    (raiseCondition c s).lpt.answer = s.lpt.answer ∧
    (raiseCondition c s).lpt.holdRequest = s.lpt.holdRequest ∧
    (raiseCondition c s).lpt.configDigest = s.lpt.configDigest ∧
    (raiseCondition c s).fca.sightingCount = s.fca.sightingCount := by
  unfold raiseCondition
  ((try dsimp only) <;> (repeat' split) <;> (try rfl) <;> simp)

@[simp] theorem finish_frame (s : State) :
    (finish s).lkc = s.lkc ∧
    (finish s).rsc = s.rsc ∧
    (finish s).record = s.record ∧
    (finish s).agu = s.agu ∧
    (finish s).conditions = s.conditions ∧
    (finish s).settings = s.settings ∧
    (finish s).stl = s.stl ∧
    (finish s).microseconds = s.microseconds ∧
    (finish s).freeCount = s.freeCount ∧
    (finish s).pending = s.pending ∧
    (finish s).tbs.state = s.tbs.state ∧
    (finish s).lpt.mask = s.lpt.mask ∧
    (finish s).lpt.answer = s.lpt.answer ∧
    (finish s).lpt.holdRequest = s.lpt.holdRequest ∧
    (finish s).lpt.access = s.lpt.access ∧
    (finish s).lpt.configDigest = s.lpt.configDigest ∧
    (finish s).fca.sightingCount = s.fca.sightingCount := by
  unfold finish
  ((try dsimp only) <;> (repeat' split) <;> (try rfl) <;> simp)

end Sys2Proof.Machine
end

