-- ==== Sys2Proof/Laws/Link.lean ====
section
/-! SUPPORT. Frames of the operations of Machine/Link.lean: what each leaves as it was. -/

namespace Sys2Proof.Machine

@[simp] theorem send_frame (x : Sending) (s : State) :
    (send x s).rsc = s.rsc ∧
    (send x s).record = s.record ∧
    (send x s).agu = s.agu ∧
    (send x s).tbs = s.tbs ∧
    (send x s).dre = s.dre ∧
    (send x s).fca = s.fca ∧
    (send x s).conditions = s.conditions ∧
    (send x s).settings = s.settings ∧
    (send x s).lpt = s.lpt ∧
    (send x s).stl = s.stl ∧
    (send x s).microseconds = s.microseconds ∧
    (send x s).freeCount = s.freeCount ∧
    (send x s).pending = s.pending ∧
    (send x s).lkc.queue = s.lkc.queue ∧
    (send x s).lkc.discarding = s.lkc.discarding := by
  unfold send
  ((try dsimp only) <;> (repeat' split) <;> (try rfl) <;> simp)

@[simp] theorem countLoss_frame (f : EventFrame) (s : State) :
    (countLoss f s).record = s.record ∧
    (countLoss f s).agu = s.agu ∧
    (countLoss f s).settings = s.settings ∧
    (countLoss f s).stl = s.stl ∧
    (countLoss f s).microseconds = s.microseconds ∧
    (countLoss f s).freeCount = s.freeCount ∧
    (countLoss f s).pending = s.pending ∧
    (countLoss f s).lkc.discarding = s.lkc.discarding ∧
    (countLoss f s).rsc.roundTime = s.rsc.roundTime ∧
    (countLoss f s).rsc.paused = s.rsc.paused ∧
    (countLoss f s).rsc.span = s.rsc.span ∧
    (countLoss f s).lpt.mask = s.lpt.mask ∧
    (countLoss f s).lpt.answer = s.lpt.answer ∧
    (countLoss f s).lpt.holdRequest = s.lpt.holdRequest ∧
    (countLoss f s).lpt.configDigest = s.lpt.configDigest ∧
    (countLoss f s).fca.sightingCount = s.fca.sightingCount := by
  unfold countLoss
  ((try dsimp only) <;> (repeat' split) <;> (try rfl) <;> simp)

@[simp] theorem sendingOver_frame (s : State) :
    (sendingOver s).rsc = s.rsc ∧
    (sendingOver s).record = s.record ∧
    (sendingOver s).agu = s.agu ∧
    (sendingOver s).fca = s.fca ∧
    (sendingOver s).settings = s.settings ∧
    (sendingOver s).stl = s.stl ∧
    (sendingOver s).microseconds = s.microseconds ∧
    (sendingOver s).freeCount = s.freeCount ∧
    (sendingOver s).pending = s.pending ∧
    (sendingOver s).lkc.discarding = s.lkc.discarding ∧
    (sendingOver s).dre.gate = s.dre.gate ∧
    (sendingOver s).lpt.mask = s.lpt.mask ∧
    (sendingOver s).lpt.answer = s.lpt.answer ∧
    (sendingOver s).lpt.holdRequest = s.lpt.holdRequest ∧
    (sendingOver s).lpt.configDigest = s.lpt.configDigest := by
  unfold sendingOver
  ((try dsimp only) <;> (repeat' split) <;> (try rfl) <;> simp)

@[simp] theorem loseArbitration_frame (s : State) :
    (loseArbitration s).record = s.record ∧
    (loseArbitration s).agu = s.agu ∧
    (loseArbitration s).settings = s.settings ∧
    (loseArbitration s).stl = s.stl ∧
    (loseArbitration s).microseconds = s.microseconds ∧
    (loseArbitration s).freeCount = s.freeCount ∧
    (loseArbitration s).pending = s.pending ∧
    (loseArbitration s).lkc.discarding = s.lkc.discarding ∧
    (loseArbitration s).rsc.roundTime = s.rsc.roundTime ∧
    (loseArbitration s).rsc.paused = s.rsc.paused ∧
    (loseArbitration s).rsc.span = s.rsc.span ∧
    (loseArbitration s).lpt.mask = s.lpt.mask ∧
    (loseArbitration s).lpt.answer = s.lpt.answer ∧
    (loseArbitration s).lpt.holdRequest = s.lpt.holdRequest ∧
    (loseArbitration s).lpt.configDigest = s.lpt.configDigest ∧
    (loseArbitration s).fca.sightingCount = s.fca.sightingCount := by
  unfold loseArbitration
  ((try dsimp only) <;> (repeat' split) <;> (try rfl) <;> simp)

@[simp] theorem abandonRound_frame (now : Bool) (s : State) :
    (abandonRound now s).record = s.record ∧
    (abandonRound now s).agu = s.agu ∧
    (abandonRound now s).tbs = s.tbs ∧
    (abandonRound now s).dre = s.dre ∧
    (abandonRound now s).fca = s.fca ∧
    (abandonRound now s).conditions = s.conditions ∧
    (abandonRound now s).settings = s.settings ∧
    (abandonRound now s).lpt = s.lpt ∧
    (abandonRound now s).stl = s.stl ∧
    (abandonRound now s).microseconds = s.microseconds ∧
    (abandonRound now s).freeCount = s.freeCount ∧
    (abandonRound now s).pending = s.pending ∧
    (abandonRound now s).lkc.sending = s.lkc.sending ∧
    (abandonRound now s).lkc.queue = s.lkc.queue ∧
    (abandonRound now s).lkc.discarding = s.lkc.discarding ∧
    (abandonRound now s).rsc.link = s.rsc.link ∧
    (abandonRound now s).rsc.paused = s.rsc.paused := by
  unfold abandonRound
  ((try dsimp only) <;> (repeat' split) <;> (try rfl) <;> simp)

@[simp] theorem failSend_frame (s : State) :
    (failSend s).record = s.record ∧
    (failSend s).agu = s.agu ∧
    (failSend s).settings = s.settings ∧
    (failSend s).stl = s.stl ∧
    (failSend s).microseconds = s.microseconds ∧
    (failSend s).freeCount = s.freeCount ∧
    (failSend s).pending = s.pending ∧
    (failSend s).lkc.discarding = s.lkc.discarding ∧
    (failSend s).rsc.paused = s.rsc.paused ∧
    (failSend s).lpt.mask = s.lpt.mask ∧
    (failSend s).lpt.answer = s.lpt.answer ∧
    (failSend s).lpt.holdRequest = s.lpt.holdRequest ∧
    (failSend s).lpt.configDigest = s.lpt.configDigest ∧
    (failSend s).fca.sightingCount = s.fca.sightingCount := by
  unfold failSend
  ((try dsimp only) <;> (repeat' split) <;> (try rfl) <;> simp)

@[simp] theorem discardFrame_frame (start : Nat) (s : State) :
    (discardFrame start s).record = s.record ∧
    (discardFrame start s).agu = s.agu ∧
    (discardFrame start s).settings = s.settings ∧
    (discardFrame start s).stl = s.stl ∧
    (discardFrame start s).microseconds = s.microseconds ∧
    (discardFrame start s).freeCount = s.freeCount ∧
    (discardFrame start s).pending = s.pending ∧
    (discardFrame start s).rsc.paused = s.rsc.paused ∧
    (discardFrame start s).lpt.mask = s.lpt.mask ∧
    (discardFrame start s).lpt.answer = s.lpt.answer ∧
    (discardFrame start s).lpt.holdRequest = s.lpt.holdRequest ∧
    (discardFrame start s).lpt.configDigest = s.lpt.configDigest ∧
    (discardFrame start s).fca.sightingCount = s.fca.sightingCount := by
  unfold discardFrame
  ((try dsimp only) <;> (repeat' split) <;> (try rfl) <;> simp)

@[simp] theorem receiverReturns_frame (s : State) :
    (receiverReturns s).record = s.record ∧
    (receiverReturns s).agu = s.agu ∧
    (receiverReturns s).tbs = s.tbs ∧
    (receiverReturns s).dre = s.dre ∧
    (receiverReturns s).fca = s.fca ∧
    (receiverReturns s).conditions = s.conditions ∧
    (receiverReturns s).settings = s.settings ∧
    (receiverReturns s).lpt = s.lpt ∧
    (receiverReturns s).stl = s.stl ∧
    (receiverReturns s).microseconds = s.microseconds ∧
    (receiverReturns s).freeCount = s.freeCount ∧
    (receiverReturns s).pending = s.pending ∧
    (receiverReturns s).lkc.sending = s.lkc.sending ∧
    (receiverReturns s).lkc.queue = s.lkc.queue ∧
    (receiverReturns s).rsc.link = s.rsc.link ∧
    (receiverReturns s).rsc.paused = s.rsc.paused ∧
    (receiverReturns s).rsc.span = s.rsc.span := by
  unfold receiverReturns
  ((try dsimp only) <;> (repeat' split) <;> (try rfl) <;> simp)

@[simp] theorem closeSession_frame (f : EventFrame) (s : State) :
    (closeSession f s).lkc = s.lkc ∧
    (closeSession f s).rsc = s.rsc ∧
    (closeSession f s).record = s.record ∧
    (closeSession f s).agu = s.agu ∧
    (closeSession f s).dre = s.dre ∧
    (closeSession f s).fca = s.fca ∧
    (closeSession f s).conditions = s.conditions ∧
    (closeSession f s).settings = s.settings ∧
    (closeSession f s).lpt = s.lpt ∧
    (closeSession f s).stl = s.stl ∧
    (closeSession f s).microseconds = s.microseconds ∧
    (closeSession f s).freeCount = s.freeCount ∧
    (closeSession f s).pending = s.pending := by
  unfold closeSession
  ((try dsimp only) <;> (repeat' split) <;> (try rfl) <;> simp)

@[simp] theorem settleOwn_frame (f : EventFrame) (s : State) :
    (settleOwn f s).lkc = s.lkc ∧
    (settleOwn f s).rsc = s.rsc ∧
    (settleOwn f s).record = s.record ∧
    (settleOwn f s).agu = s.agu ∧
    (settleOwn f s).fca = s.fca ∧
    (settleOwn f s).conditions = s.conditions ∧
    (settleOwn f s).settings = s.settings ∧
    (settleOwn f s).stl = s.stl ∧
    (settleOwn f s).microseconds = s.microseconds ∧
    (settleOwn f s).freeCount = s.freeCount ∧
    (settleOwn f s).pending = s.pending ∧
    (settleOwn f s).dre.state = s.dre.state ∧
    (settleOwn f s).dre.gate = s.dre.gate ∧
    (settleOwn f s).lpt.mask = s.lpt.mask ∧
    (settleOwn f s).lpt.answer = s.lpt.answer ∧
    (settleOwn f s).lpt.holdRequest = s.lpt.holdRequest ∧
    (settleOwn f s).lpt.access = s.lpt.access ∧
    (settleOwn f s).lpt.configDigest = s.lpt.configDigest := by
  unfold settleOwn
  ((try dsimp only) <;> (repeat' split) <;> (try rfl) <;> simp)

@[simp] theorem takeOwn_frame (s : State) :
    (takeOwn s).rsc = s.rsc ∧
    (takeOwn s).record = s.record ∧
    (takeOwn s).agu = s.agu ∧
    (takeOwn s).fca = s.fca ∧
    (takeOwn s).settings = s.settings ∧
    (takeOwn s).stl = s.stl ∧
    (takeOwn s).microseconds = s.microseconds ∧
    (takeOwn s).freeCount = s.freeCount ∧
    (takeOwn s).pending = s.pending ∧
    (takeOwn s).lkc.discarding = s.lkc.discarding ∧
    (takeOwn s).dre.state = s.dre.state ∧
    (takeOwn s).dre.gate = s.dre.gate ∧
    (takeOwn s).lpt.mask = s.lpt.mask ∧
    (takeOwn s).lpt.answer = s.lpt.answer ∧
    (takeOwn s).lpt.holdRequest = s.lpt.holdRequest ∧
    (takeOwn s).lpt.access = s.lpt.access ∧
    (takeOwn s).lpt.configDigest = s.lpt.configDigest := by
  unfold takeOwn
  ((try dsimp only) <;> (repeat' split) <;> (try rfl) <;> simp)

@[simp] theorem restartUnopened_frame (s : State) :
    (restartUnopened s).lkc = s.lkc ∧
    (restartUnopened s).record = s.record ∧
    (restartUnopened s).agu = s.agu ∧
    (restartUnopened s).tbs = s.tbs ∧
    (restartUnopened s).dre = s.dre ∧
    (restartUnopened s).fca = s.fca ∧
    (restartUnopened s).conditions = s.conditions ∧
    (restartUnopened s).settings = s.settings ∧
    (restartUnopened s).lpt = s.lpt ∧
    (restartUnopened s).stl = s.stl ∧
    (restartUnopened s).microseconds = s.microseconds ∧
    (restartUnopened s).freeCount = s.freeCount ∧
    (restartUnopened s).pending = s.pending ∧
    (restartUnopened s).rsc.link = s.rsc.link ∧
    (restartUnopened s).rsc.paused = s.rsc.paused ∧
    (restartUnopened s).rsc.span = s.rsc.span := by
  unfold restartUnopened
  ((try dsimp only) <;> (repeat' split) <;> (try rfl) <;> simp)

/-! ### Reading back -/

@[simp] theorem readBackFrom_unread (edge n : Nat) (sent : List Bool) : readBackFrom edge n sent [] = .agrees := by
  cases sent <;> rfl

@[simp] theorem readBackFrom_same (edge n : Nat) (b : Bool) (sent read : List Bool) :
    readBackFrom edge n (b :: sent) (b :: read) = readBackFrom edge (n + 1) sent read := by
  simp [readBackFrom]

/-- A recessive bit read dominant. -/
@[simp] theorem readBackFrom_overdriven (edge n : Nat) (sent read : List Bool) :
    readBackFrom edge n (true :: sent) (false :: read) = if n < edge then .lost n else .failed n := by
  simp [readBackFrom]

/-- A dominant bit read recessive. -/
@[simp] theorem readBackFrom_faded (edge n : Nat) (sent read : List Bool) :
    readBackFrom edge n (false :: sent) (true :: read) = .failed n := by
  simp [readBackFrom]

/-- A frame that is read back as it was sent agrees. -/
theorem readBackFrom_self (edge n : Nat) (bits : List Bool) : readBackFrom edge n bits bits = .agrees := by
  induction bits generalizing n with
  | nil => rfl
  | cons b bits ih => rw [readBackFrom_same]; exact ih (n + 1)

end Sys2Proof.Machine
end

