-- ==== Sys2Proof/Laws/Agreement.lean ====
section
/-! SUPPORT. Frames of the operations of Machine/Agreement.lean: what each leaves as it was. -/

namespace Sys2Proof.Machine

@[simp] theorem setTracker_frame (f : Freeze) (s : State) :
    (setTracker f s).lkc = s.lkc ∧
    (setTracker f s).rsc = s.rsc ∧
    (setTracker f s).record = s.record ∧
    (setTracker f s).tbs = s.tbs ∧
    (setTracker f s).dre = s.dre ∧
    (setTracker f s).fca = s.fca ∧
    (setTracker f s).conditions = s.conditions ∧
    (setTracker f s).settings = s.settings ∧
    (setTracker f s).stl = s.stl ∧
    (setTracker f s).microseconds = s.microseconds ∧
    (setTracker f s).freeCount = s.freeCount ∧
    (setTracker f s).pending = s.pending ∧
    (setTracker f s).agu.receiver = s.agu.receiver ∧
    (setTracker f s).lpt.mask = s.lpt.mask ∧
    (setTracker f s).lpt.answer = s.lpt.answer ∧
    (setTracker f s).lpt.holdRequest = s.lpt.holdRequest ∧
    (setTracker f s).lpt.access = s.lpt.access ∧
    (setTracker f s).lpt.configDigest = s.lpt.configDigest := by
  unfold setTracker
  ((try dsimp only) <;> (repeat' split) <;> (try rfl) <;> simp)

@[simp] theorem setView_frame (f : Freeze) (s : State) :
    (setView f s).lkc = s.lkc ∧
    (setView f s).rsc = s.rsc ∧
    (setView f s).record = s.record ∧
    (setView f s).tbs = s.tbs ∧
    (setView f s).dre = s.dre ∧
    (setView f s).fca = s.fca ∧
    (setView f s).conditions = s.conditions ∧
    (setView f s).settings = s.settings ∧
    (setView f s).stl = s.stl ∧
    (setView f s).microseconds = s.microseconds ∧
    (setView f s).freeCount = s.freeCount ∧
    (setView f s).pending = s.pending ∧
    (setView f s).agu.tracker = s.agu.tracker ∧
    (setView f s).agu.receiver = s.agu.receiver ∧
    (setView f s).lpt.mask = s.lpt.mask ∧
    (setView f s).lpt.answer = s.lpt.answer ∧
    (setView f s).lpt.holdRequest = s.lpt.holdRequest ∧
    (setView f s).lpt.access = s.lpt.access ∧
    (setView f s).lpt.configDigest = s.lpt.configDigest := by
  unfold setView
  ((try dsimp only) <;> (repeat' split) <;> (try rfl) <;> simp)

@[simp] theorem setReceiver_frame (r : ReceiverState) (s : State) :
    (setReceiver r s).lkc = s.lkc ∧
    (setReceiver r s).rsc = s.rsc ∧
    (setReceiver r s).record = s.record ∧
    (setReceiver r s).tbs = s.tbs ∧
    (setReceiver r s).dre = s.dre ∧
    (setReceiver r s).fca = s.fca ∧
    (setReceiver r s).conditions = s.conditions ∧
    (setReceiver r s).settings = s.settings ∧
    (setReceiver r s).stl = s.stl ∧
    (setReceiver r s).microseconds = s.microseconds ∧
    (setReceiver r s).freeCount = s.freeCount ∧
    (setReceiver r s).pending = s.pending ∧
    (setReceiver r s).agu.tracker = s.agu.tracker ∧
    (setReceiver r s).lpt.mask = s.lpt.mask ∧
    (setReceiver r s).lpt.answer = s.lpt.answer ∧
    (setReceiver r s).lpt.holdRequest = s.lpt.holdRequest ∧
    (setReceiver r s).lpt.access = s.lpt.access ∧
    (setReceiver r s).lpt.configDigest = s.lpt.configDigest := by
  unfold setReceiver
  ((try dsimp only) <;> (repeat' split) <;> (try rfl) <;> simp)

@[simp] theorem emptyStore_frame (s : State) :
    (emptyStore s).lkc = s.lkc ∧
    (emptyStore s).rsc = s.rsc ∧
    (emptyStore s).record = s.record ∧
    (emptyStore s).tbs = s.tbs ∧
    (emptyStore s).dre = s.dre ∧
    (emptyStore s).fca = s.fca ∧
    (emptyStore s).conditions = s.conditions ∧
    (emptyStore s).settings = s.settings ∧
    (emptyStore s).lpt = s.lpt ∧
    (emptyStore s).stl = s.stl ∧
    (emptyStore s).microseconds = s.microseconds ∧
    (emptyStore s).freeCount = s.freeCount ∧
    (emptyStore s).pending = s.pending ∧
    (emptyStore s).agu.tracker = s.agu.tracker ∧
    (emptyStore s).agu.receiver = s.agu.receiver := by
  unfold emptyStore
  ((try dsimp only) <;> (repeat' split) <;> (try rfl) <;> simp)

@[simp] theorem offerCatchup_frame (provider : Nat) (s : State) :
    (offerCatchup provider s).rsc = s.rsc ∧
    (offerCatchup provider s).record = s.record ∧
    (offerCatchup provider s).tbs = s.tbs ∧
    (offerCatchup provider s).dre = s.dre ∧
    (offerCatchup provider s).fca = s.fca ∧
    (offerCatchup provider s).conditions = s.conditions ∧
    (offerCatchup provider s).settings = s.settings ∧
    (offerCatchup provider s).lpt = s.lpt ∧
    (offerCatchup provider s).stl = s.stl ∧
    (offerCatchup provider s).microseconds = s.microseconds ∧
    (offerCatchup provider s).freeCount = s.freeCount ∧
    (offerCatchup provider s).pending = s.pending ∧
    (offerCatchup provider s).lkc.sending = s.lkc.sending ∧
    (offerCatchup provider s).lkc.discarding = s.lkc.discarding ∧
    (offerCatchup provider s).agu.tracker = s.agu.tracker ∧
    (offerCatchup provider s).agu.receiver = s.agu.receiver := by
  unfold offerCatchup
  ((try dsimp only) <;> (repeat' split) <;> (try rfl) <;> simp)

@[simp] theorem offerCaught_frame (o : CaughtOutcome) (s : State) :
    (offerCaught o s).rsc = s.rsc ∧
    (offerCaught o s).record = s.record ∧
    (offerCaught o s).tbs = s.tbs ∧
    (offerCaught o s).dre = s.dre ∧
    (offerCaught o s).fca = s.fca ∧
    (offerCaught o s).conditions = s.conditions ∧
    (offerCaught o s).settings = s.settings ∧
    (offerCaught o s).lpt = s.lpt ∧
    (offerCaught o s).stl = s.stl ∧
    (offerCaught o s).microseconds = s.microseconds ∧
    (offerCaught o s).freeCount = s.freeCount ∧
    (offerCaught o s).pending = s.pending ∧
    (offerCaught o s).lkc.sending = s.lkc.sending ∧
    (offerCaught o s).lkc.discarding = s.lkc.discarding ∧
    (offerCaught o s).agu.tracker = s.agu.tracker ∧
    (offerCaught o s).agu.receiver = s.agu.receiver := by
  unfold offerCaught
  ((try dsimp only) <;> (repeat' split) <;> (try rfl) <;> simp)

@[simp] theorem askProvider_frame (provider : Nat) (s : State) :
    (askProvider provider s).rsc = s.rsc ∧
    (askProvider provider s).record = s.record ∧
    (askProvider provider s).tbs = s.tbs ∧
    (askProvider provider s).dre = s.dre ∧
    (askProvider provider s).fca = s.fca ∧
    (askProvider provider s).conditions = s.conditions ∧
    (askProvider provider s).settings = s.settings ∧
    (askProvider provider s).stl = s.stl ∧
    (askProvider provider s).microseconds = s.microseconds ∧
    (askProvider provider s).freeCount = s.freeCount ∧
    (askProvider provider s).pending = s.pending ∧
    (askProvider provider s).lkc.sending = s.lkc.sending ∧
    (askProvider provider s).lkc.discarding = s.lkc.discarding ∧
    (askProvider provider s).agu.tracker = s.agu.tracker ∧
    (askProvider provider s).lpt.mask = s.lpt.mask ∧
    (askProvider provider s).lpt.answer = s.lpt.answer ∧
    (askProvider provider s).lpt.holdRequest = s.lpt.holdRequest ∧
    (askProvider provider s).lpt.access = s.lpt.access ∧
    (askProvider provider s).lpt.configDigest = s.lpt.configDigest := by
  unfold askProvider
  ((try dsimp only) <;> (repeat' split) <;> (try rfl) <;> simp)

@[simp] theorem abandonAttempt_frame (s : State) :
    (abandonAttempt s).record = s.record ∧
    (abandonAttempt s).settings = s.settings ∧
    (abandonAttempt s).stl = s.stl ∧
    (abandonAttempt s).microseconds = s.microseconds ∧
    (abandonAttempt s).freeCount = s.freeCount ∧
    (abandonAttempt s).pending = s.pending ∧
    (abandonAttempt s).lkc.discarding = s.lkc.discarding ∧
    (abandonAttempt s).rsc.roundTime = s.rsc.roundTime ∧
    (abandonAttempt s).rsc.paused = s.rsc.paused ∧
    (abandonAttempt s).rsc.span = s.rsc.span ∧
    (abandonAttempt s).agu.tracker = s.agu.tracker ∧
    (abandonAttempt s).lpt.mask = s.lpt.mask ∧
    (abandonAttempt s).lpt.answer = s.lpt.answer ∧
    (abandonAttempt s).lpt.holdRequest = s.lpt.holdRequest ∧
    (abandonAttempt s).lpt.configDigest = s.lpt.configDigest ∧
    (abandonAttempt s).fca.sightingCount = s.fca.sightingCount := by
  unfold abandonAttempt
  ((try dsimp only) <;> (repeat' split) <;> (try rfl) <;> simp)

@[simp] theorem moveView_frame (f : Freeze) (s : State) :
    (moveView f s).record = s.record ∧
    (moveView f s).settings = s.settings ∧
    (moveView f s).stl = s.stl ∧
    (moveView f s).microseconds = s.microseconds ∧
    (moveView f s).freeCount = s.freeCount ∧
    (moveView f s).pending = s.pending ∧
    (moveView f s).lkc.discarding = s.lkc.discarding ∧
    (moveView f s).rsc.roundTime = s.rsc.roundTime ∧
    (moveView f s).rsc.paused = s.rsc.paused ∧
    (moveView f s).rsc.span = s.rsc.span ∧
    (moveView f s).agu.tracker = s.agu.tracker ∧
    (moveView f s).lpt.mask = s.lpt.mask ∧
    (moveView f s).lpt.answer = s.lpt.answer ∧
    (moveView f s).lpt.holdRequest = s.lpt.holdRequest ∧
    (moveView f s).lpt.configDigest = s.lpt.configDigest ∧
    (moveView f s).fca.sightingCount = s.fca.sightingCount := by
  unfold moveView
  ((try dsimp only) <;> (repeat' split) <;> (try rfl) <;> simp)

@[simp] theorem viewHangup_frame (s : State) :
    (viewHangup s).record = s.record ∧
    (viewHangup s).settings = s.settings ∧
    (viewHangup s).stl = s.stl ∧
    (viewHangup s).microseconds = s.microseconds ∧
    (viewHangup s).freeCount = s.freeCount ∧
    (viewHangup s).pending = s.pending ∧
    (viewHangup s).lkc.discarding = s.lkc.discarding ∧
    (viewHangup s).rsc.roundTime = s.rsc.roundTime ∧
    (viewHangup s).rsc.paused = s.rsc.paused ∧
    (viewHangup s).rsc.span = s.rsc.span ∧
    (viewHangup s).agu.tracker = s.agu.tracker ∧
    (viewHangup s).lpt.mask = s.lpt.mask ∧
    (viewHangup s).lpt.answer = s.lpt.answer ∧
    (viewHangup s).lpt.holdRequest = s.lpt.holdRequest ∧
    (viewHangup s).lpt.configDigest = s.lpt.configDigest ∧
    (viewHangup s).fca.sightingCount = s.fca.sightingCount := by
  unfold viewHangup
  ((try dsimp only) <;> (repeat' split) <;> (try rfl) <;> simp)

@[simp] theorem takeSnapshot_frame (s : State) :
    (takeSnapshot s).lkc = s.lkc ∧
    (takeSnapshot s).rsc = s.rsc ∧
    (takeSnapshot s).record = s.record ∧
    (takeSnapshot s).tbs = s.tbs ∧
    (takeSnapshot s).dre = s.dre ∧
    (takeSnapshot s).fca = s.fca ∧
    (takeSnapshot s).conditions = s.conditions ∧
    (takeSnapshot s).settings = s.settings ∧
    (takeSnapshot s).lpt = s.lpt ∧
    (takeSnapshot s).stl = s.stl ∧
    (takeSnapshot s).microseconds = s.microseconds ∧
    (takeSnapshot s).freeCount = s.freeCount ∧
    (takeSnapshot s).pending = s.pending ∧
    (takeSnapshot s).agu.tracker = s.agu.tracker ∧
    (takeSnapshot s).agu.receiver = s.agu.receiver := by
  unfold takeSnapshot
  ((try dsimp only) <;> (repeat' split) <;> (try rfl) <;> simp)

@[simp] theorem aguCatchup_frame (sender provider : Nat) (s : State) :
    (aguCatchup sender provider s).lkc = s.lkc ∧
    (aguCatchup sender provider s).rsc = s.rsc ∧
    (aguCatchup sender provider s).record = s.record ∧
    (aguCatchup sender provider s).tbs = s.tbs ∧
    (aguCatchup sender provider s).dre = s.dre ∧
    (aguCatchup sender provider s).fca = s.fca ∧
    (aguCatchup sender provider s).conditions = s.conditions ∧
    (aguCatchup sender provider s).settings = s.settings ∧
    (aguCatchup sender provider s).stl = s.stl ∧
    (aguCatchup sender provider s).microseconds = s.microseconds ∧
    (aguCatchup sender provider s).freeCount = s.freeCount ∧
    (aguCatchup sender provider s).pending = s.pending ∧
    (aguCatchup sender provider s).lpt.mask = s.lpt.mask ∧
    (aguCatchup sender provider s).lpt.answer = s.lpt.answer ∧
    (aguCatchup sender provider s).lpt.holdRequest = s.lpt.holdRequest ∧
    (aguCatchup sender provider s).lpt.access = s.lpt.access ∧
    (aguCatchup sender provider s).lpt.configDigest = s.lpt.configDigest := by
  unfold aguCatchup
  ((try dsimp only) <;> (repeat' split) <;> (try rfl) <;> simp)

@[simp] theorem installTakesEffect_frame (s : State) :
    (installTakesEffect s).record = s.record ∧
    (installTakesEffect s).fca = s.fca ∧
    (installTakesEffect s).settings = s.settings ∧
    (installTakesEffect s).stl = s.stl ∧
    (installTakesEffect s).microseconds = s.microseconds ∧
    (installTakesEffect s).freeCount = s.freeCount ∧
    (installTakesEffect s).pending = s.pending ∧
    (installTakesEffect s).lkc.sending = s.lkc.sending ∧
    (installTakesEffect s).lkc.discarding = s.lkc.discarding ∧
    (installTakesEffect s).rsc.roundTime = s.rsc.roundTime ∧
    (installTakesEffect s).rsc.paused = s.rsc.paused ∧
    (installTakesEffect s).rsc.span = s.rsc.span ∧
    (installTakesEffect s).lpt.mask = s.lpt.mask ∧
    (installTakesEffect s).lpt.answer = s.lpt.answer ∧
    (installTakesEffect s).lpt.holdRequest = s.lpt.holdRequest ∧
    (installTakesEffect s).lpt.configDigest = s.lpt.configDigest := by
  unfold installTakesEffect
  ((try dsimp only) <;> (repeat' split) <;> (try rfl) <;> simp)

@[simp] theorem aguCaught_frame (sender : Nat) (o : CaughtOutcome) (s : State) :
    (aguCaught sender o s).record = s.record ∧
    (aguCaught sender o s).settings = s.settings ∧
    (aguCaught sender o s).stl = s.stl ∧
    (aguCaught sender o s).microseconds = s.microseconds ∧
    (aguCaught sender o s).freeCount = s.freeCount ∧
    (aguCaught sender o s).pending = s.pending ∧
    (aguCaught sender o s).lkc.discarding = s.lkc.discarding ∧
    (aguCaught sender o s).rsc.roundTime = s.rsc.roundTime ∧
    (aguCaught sender o s).rsc.paused = s.rsc.paused ∧
    (aguCaught sender o s).rsc.span = s.rsc.span ∧
    (aguCaught sender o s).lpt.mask = s.lpt.mask ∧
    (aguCaught sender o s).lpt.answer = s.lpt.answer ∧
    (aguCaught sender o s).lpt.holdRequest = s.lpt.holdRequest ∧
    (aguCaught sender o s).lpt.configDigest = s.lpt.configDigest ∧
    (aguCaught sender o s).fca.sightingCount = s.fca.sightingCount := by
  unfold aguCaught
  ((try dsimp only) <;> (repeat' split) <;> (try rfl) <;> simp)

@[simp] theorem install_frame (s : State) :
    (install s).rsc = s.rsc ∧
    (install s).tbs = s.tbs ∧
    (install s).dre = s.dre ∧
    (install s).fca = s.fca ∧
    (install s).conditions = s.conditions ∧
    (install s).settings = s.settings ∧
    (install s).stl = s.stl ∧
    (install s).microseconds = s.microseconds ∧
    (install s).freeCount = s.freeCount ∧
    (install s).pending = s.pending ∧
    (install s).lkc.sending = s.lkc.sending ∧
    (install s).lkc.discarding = s.lkc.discarding ∧
    (install s).agu.tracker = s.agu.tracker ∧
    (install s).lpt.mask = s.lpt.mask ∧
    (install s).lpt.answer = s.lpt.answer ∧
    (install s).lpt.holdRequest = s.lpt.holdRequest ∧
    (install s).lpt.access = s.lpt.access ∧
    (install s).lpt.configDigest = s.lpt.configDigest := by
  unfold install
  ((try dsimp only) <;> (repeat' split) <;> (try rfl) <;> simp)

@[simp] theorem keepPiece_frame (sender : Nat) (p : Piece) (s : State) :
    (keepPiece sender p s).lkc = s.lkc ∧
    (keepPiece sender p s).rsc = s.rsc ∧
    (keepPiece sender p s).record = s.record ∧
    (keepPiece sender p s).tbs = s.tbs ∧
    (keepPiece sender p s).dre = s.dre ∧
    (keepPiece sender p s).fca = s.fca ∧
    (keepPiece sender p s).conditions = s.conditions ∧
    (keepPiece sender p s).settings = s.settings ∧
    (keepPiece sender p s).stl = s.stl ∧
    (keepPiece sender p s).microseconds = s.microseconds ∧
    (keepPiece sender p s).freeCount = s.freeCount ∧
    (keepPiece sender p s).pending = s.pending ∧
    (keepPiece sender p s).agu.tracker = s.agu.tracker ∧
    (keepPiece sender p s).agu.receiver = s.agu.receiver ∧
    (keepPiece sender p s).lpt.mask = s.lpt.mask ∧
    (keepPiece sender p s).lpt.answer = s.lpt.answer ∧
    (keepPiece sender p s).lpt.holdRequest = s.lpt.holdRequest ∧
    (keepPiece sender p s).lpt.access = s.lpt.access ∧
    (keepPiece sender p s).lpt.configDigest = s.lpt.configDigest := by
  unfold keepPiece
  ((try dsimp only) <;> (repeat' split) <;> (try rfl) <;> simp)

@[simp] theorem aguStatus_frame (sender : Nat) (f : StatusFields) (s : State) :
    (aguStatus sender f s).rsc = s.rsc ∧
    (aguStatus sender f s).tbs = s.tbs ∧
    (aguStatus sender f s).dre = s.dre ∧
    (aguStatus sender f s).fca = s.fca ∧
    (aguStatus sender f s).conditions = s.conditions ∧
    (aguStatus sender f s).settings = s.settings ∧
    (aguStatus sender f s).stl = s.stl ∧
    (aguStatus sender f s).microseconds = s.microseconds ∧
    (aguStatus sender f s).freeCount = s.freeCount ∧
    (aguStatus sender f s).pending = s.pending ∧
    (aguStatus sender f s).lkc.sending = s.lkc.sending ∧
    (aguStatus sender f s).lkc.discarding = s.lkc.discarding ∧
    (aguStatus sender f s).agu.tracker = s.agu.tracker ∧
    (aguStatus sender f s).lpt.mask = s.lpt.mask ∧
    (aguStatus sender f s).lpt.answer = s.lpt.answer ∧
    (aguStatus sender f s).lpt.holdRequest = s.lpt.holdRequest ∧
    (aguStatus sender f s).lpt.access = s.lpt.access ∧
    (aguStatus sender f s).lpt.configDigest = s.lpt.configDigest := by
  unfold aguStatus
  ((try dsimp only) <;> (repeat' split) <;> (try rfl) <;> simp)

@[simp] theorem disagree_frame (provider : Nat) (s : State) :
    (disagree provider s).record = s.record ∧
    (disagree provider s).settings = s.settings ∧
    (disagree provider s).stl = s.stl ∧
    (disagree provider s).microseconds = s.microseconds ∧
    (disagree provider s).freeCount = s.freeCount ∧
    (disagree provider s).pending = s.pending ∧
    (disagree provider s).lkc.discarding = s.lkc.discarding ∧
    (disagree provider s).rsc.roundTime = s.rsc.roundTime ∧
    (disagree provider s).rsc.paused = s.rsc.paused ∧
    (disagree provider s).rsc.span = s.rsc.span ∧
    (disagree provider s).lpt.mask = s.lpt.mask ∧
    (disagree provider s).lpt.answer = s.lpt.answer ∧
    (disagree provider s).lpt.holdRequest = s.lpt.holdRequest ∧
    (disagree provider s).lpt.configDigest = s.lpt.configDigest ∧
    (disagree provider s).fca.sightingCount = s.fca.sightingCount := by
  unfold disagree
  ((try dsimp only) <;> (repeat' split) <;> (try rfl) <;> simp)

@[simp] theorem compareDigests_frame (own : Word16) (s : State) :
    (compareDigests own s).record = s.record ∧
    (compareDigests own s).settings = s.settings ∧
    (compareDigests own s).stl = s.stl ∧
    (compareDigests own s).microseconds = s.microseconds ∧
    (compareDigests own s).freeCount = s.freeCount ∧
    (compareDigests own s).pending = s.pending ∧
    (compareDigests own s).lkc.discarding = s.lkc.discarding ∧
    (compareDigests own s).rsc.roundTime = s.rsc.roundTime ∧
    (compareDigests own s).rsc.paused = s.rsc.paused ∧
    (compareDigests own s).rsc.span = s.rsc.span ∧
    (compareDigests own s).lpt.mask = s.lpt.mask ∧
    (compareDigests own s).lpt.answer = s.lpt.answer ∧
    (compareDigests own s).lpt.holdRequest = s.lpt.holdRequest ∧
    (compareDigests own s).lpt.configDigest = s.lpt.configDigest ∧
    (compareDigests own s).fca.sightingCount = s.fca.sightingCount := by
  unfold compareDigests
  ((try dsimp only) <;> (repeat' split) <;> (try rfl) <;> simp)

@[simp] theorem freezeStep_frame (s : State) :
    (freezeStep s).record = s.record ∧
    (freezeStep s).settings = s.settings ∧
    (freezeStep s).stl = s.stl ∧
    (freezeStep s).microseconds = s.microseconds ∧
    (freezeStep s).freeCount = s.freeCount ∧
    (freezeStep s).pending = s.pending ∧
    (freezeStep s).lkc.discarding = s.lkc.discarding ∧
    (freezeStep s).rsc.roundTime = s.rsc.roundTime ∧
    (freezeStep s).rsc.paused = s.rsc.paused ∧
    (freezeStep s).rsc.span = s.rsc.span ∧
    (freezeStep s).lpt.mask = s.lpt.mask ∧
    (freezeStep s).lpt.answer = s.lpt.answer ∧
    (freezeStep s).lpt.holdRequest = s.lpt.holdRequest ∧
    (freezeStep s).lpt.configDigest = s.lpt.configDigest ∧
    (freezeStep s).fca.sightingCount = s.fca.sightingCount := by
  unfold freezeStep
  ((try dsimp only) <;> (repeat' split) <;> (try rfl) <;> simp)

@[simp] theorem backToJoining_frame (s : State) :
    (backToJoining s).lkc = s.lkc ∧
    (backToJoining s).record = s.record ∧
    (backToJoining s).tbs = s.tbs ∧
    (backToJoining s).dre = s.dre ∧
    (backToJoining s).fca = s.fca ∧
    (backToJoining s).settings = s.settings ∧
    (backToJoining s).stl = s.stl ∧
    (backToJoining s).microseconds = s.microseconds ∧
    (backToJoining s).freeCount = s.freeCount ∧
    (backToJoining s).pending = s.pending ∧
    (backToJoining s).rsc.roundTime = s.rsc.roundTime ∧
    (backToJoining s).rsc.paused = s.rsc.paused ∧
    (backToJoining s).rsc.span = s.rsc.span ∧
    (backToJoining s).agu.tracker = s.agu.tracker ∧
    (backToJoining s).lpt.mask = s.lpt.mask ∧
    (backToJoining s).lpt.answer = s.lpt.answer ∧
    (backToJoining s).lpt.holdRequest = s.lpt.holdRequest ∧
    (backToJoining s).lpt.access = s.lpt.access ∧
    (backToJoining s).lpt.configDigest = s.lpt.configDigest := by
  unfold backToJoining
  ((try dsimp only) <;> (repeat' split) <;> (try rfl) <;> simp)

@[simp] theorem retry_frame (s : State) :
    (retry s).record = s.record ∧
    (retry s).tbs = s.tbs ∧
    (retry s).dre = s.dre ∧
    (retry s).fca = s.fca ∧
    (retry s).settings = s.settings ∧
    (retry s).stl = s.stl ∧
    (retry s).microseconds = s.microseconds ∧
    (retry s).freeCount = s.freeCount ∧
    (retry s).pending = s.pending ∧
    (retry s).lkc.sending = s.lkc.sending ∧
    (retry s).lkc.discarding = s.lkc.discarding ∧
    (retry s).rsc.roundTime = s.rsc.roundTime ∧
    (retry s).rsc.paused = s.rsc.paused ∧
    (retry s).rsc.span = s.rsc.span ∧
    (retry s).agu.tracker = s.agu.tracker ∧
    (retry s).lpt.mask = s.lpt.mask ∧
    (retry s).lpt.answer = s.lpt.answer ∧
    (retry s).lpt.holdRequest = s.lpt.holdRequest ∧
    (retry s).lpt.access = s.lpt.access ∧
    (retry s).lpt.configDigest = s.lpt.configDigest := by
  unfold retry
  ((try dsimp only) <;> (repeat' split) <;> (try rfl) <;> simp)

/-- The reports shift by one round, and nothing else of the round state changes. -/
@[simp] theorem Rsc.endReports_fields (r : Rsc) :
    r.endReports.lastHeard = r.heard ∧
    r.endReports.heard = List.replicate 12 none ∧
    r.endReports.slotFrames = List.replicate 12 none ∧
    r.endReports.link = r.link ∧
    r.endReports.roundTime = r.roundTime ∧
    r.endReports.roundNumber = r.roundNumber ∧
    r.endReports.sequence = r.sequence ∧
    r.endReports.paused = r.paused ∧
    r.endReports.span = r.span ∧
    r.endReports.abandoned = r.abandoned ∧
    r.endReports.holdSeen = r.holdSeen ∧
    r.endReports.joiningCount = r.joiningCount ∧
    r.endReports.silentSpans = r.silentSpans ∧
    r.endReports.miss = r.miss ∧
    r.endReports.walkPos = r.walkPos ∧
    r.endReports.checkPos = r.checkPos ∧
    r.endReports.bidDone = r.bidDone := ⟨rfl, rfl, rfl, rfl, rfl, rfl, rfl, rfl, rfl, rfl, rfl, rfl, rfl, rfl, rfl, rfl, rfl⟩

/-- When a receiver counts a round start. -/
theorem backsOff_iff (s : State) :
    s.backsOff = true ↔ s.rsc.link = .catchup ∧ s.agu.receiver = .backoff ∧ s.agu.view.run = none := by
  simp [State.backsOff, and_assoc]

/-- Nothing changes but the count. -/
@[simp] theorem countBackoff_frame (s : State) :
    (countBackoff s).agu.backoffRounds = s.agu.backoffRounds + 1 ∧
    (countBackoff s).lkc = s.lkc ∧
    (countBackoff s).rsc = s.rsc ∧
    (countBackoff s).record = s.record ∧
    (countBackoff s).tbs = s.tbs ∧
    (countBackoff s).dre = s.dre ∧
    (countBackoff s).fca = s.fca ∧
    (countBackoff s).conditions = s.conditions ∧
    (countBackoff s).settings = s.settings ∧
    (countBackoff s).lpt = s.lpt ∧
    (countBackoff s).stl = s.stl ∧
    (countBackoff s).microseconds = s.microseconds ∧
    (countBackoff s).freeCount = s.freeCount ∧
    (countBackoff s).pending = s.pending ∧
    (countBackoff s).agu.tracker = s.agu.tracker ∧
    (countBackoff s).agu.view = s.agu.view ∧
    (countBackoff s).agu.receiver = s.agu.receiver ∧
    (countBackoff s).agu.failures = s.agu.failures := by
  simp [countBackoff]

@[simp] theorem backoffStep_frame (round : Nat) (s : State) :
    (backoffStep round s).record = s.record ∧
    (backoffStep round s).tbs = s.tbs ∧
    (backoffStep round s).dre = s.dre ∧
    (backoffStep round s).fca = s.fca ∧
    (backoffStep round s).settings = s.settings ∧
    (backoffStep round s).stl = s.stl ∧
    (backoffStep round s).microseconds = s.microseconds ∧
    (backoffStep round s).freeCount = s.freeCount ∧
    (backoffStep round s).pending = s.pending ∧
    (backoffStep round s).lkc.sending = s.lkc.sending ∧
    (backoffStep round s).lkc.discarding = s.lkc.discarding ∧
    (backoffStep round s).rsc.roundTime = s.rsc.roundTime ∧
    (backoffStep round s).rsc.paused = s.rsc.paused ∧
    (backoffStep round s).rsc.span = s.rsc.span ∧
    (backoffStep round s).agu.tracker = s.agu.tracker ∧
    (backoffStep round s).lpt.mask = s.lpt.mask ∧
    (backoffStep round s).lpt.answer = s.lpt.answer ∧
    (backoffStep round s).lpt.holdRequest = s.lpt.holdRequest ∧
    (backoffStep round s).lpt.access = s.lpt.access ∧
    (backoffStep round s).lpt.configDigest = s.lpt.configDigest := by
  unfold backoffStep
  ((try dsimp only) <;> (repeat' split) <;> (try rfl) <;> simp)

@[simp] theorem reofferAgu_frame (s : State) :
    (reofferAgu s).rsc = s.rsc ∧
    (reofferAgu s).record = s.record ∧
    (reofferAgu s).tbs = s.tbs ∧
    (reofferAgu s).dre = s.dre ∧
    (reofferAgu s).fca = s.fca ∧
    (reofferAgu s).conditions = s.conditions ∧
    (reofferAgu s).settings = s.settings ∧
    (reofferAgu s).lpt = s.lpt ∧
    (reofferAgu s).stl = s.stl ∧
    (reofferAgu s).microseconds = s.microseconds ∧
    (reofferAgu s).freeCount = s.freeCount ∧
    (reofferAgu s).pending = s.pending ∧
    (reofferAgu s).lkc.sending = s.lkc.sending ∧
    (reofferAgu s).lkc.discarding = s.lkc.discarding ∧
    (reofferAgu s).agu.tracker = s.agu.tracker ∧
    (reofferAgu s).agu.receiver = s.agu.receiver := by
  unfold reofferAgu
  ((try dsimp only) <;> (repeat' split) <;> (try rfl) <;> simp)

end Sys2Proof.Machine
end

