-- ==== Sys2Proof/Laws/Frames.lean ====
section
/-! SUPPORT. Frames of the operations of Machine/Frames.lean: what each leaves as it was. -/

namespace Sys2Proof.Machine

@[simp] theorem afterColumn_frame (s : State) :
    (afterColumn s).rsc = s.rsc ∧
    (afterColumn s).agu = s.agu ∧
    (afterColumn s).fca = s.fca ∧
    (afterColumn s).conditions = s.conditions ∧
    (afterColumn s).settings = s.settings ∧
    (afterColumn s).stl = s.stl ∧
    (afterColumn s).microseconds = s.microseconds ∧
    (afterColumn s).freeCount = s.freeCount ∧
    (afterColumn s).pending = s.pending ∧
    (afterColumn s).lkc.sending = s.lkc.sending ∧
    (afterColumn s).lkc.discarding = s.lkc.discarding ∧
    (afterColumn s).lpt.mask = s.lpt.mask ∧
    (afterColumn s).lpt.answer = s.lpt.answer ∧
    (afterColumn s).lpt.holdRequest = s.lpt.holdRequest ∧
    (afterColumn s).lpt.configDigest = s.lpt.configDigest := by
  unfold afterColumn
  ((try dsimp only) <;> (repeat' split) <;> (try rfl) <;> simp)

@[simp] theorem pruLotIn_frame (k level tonnes held grade : Nat) (s : State) :
    (pruLotIn k level tonnes held grade s).rsc = s.rsc ∧
    (pruLotIn k level tonnes held grade s).agu = s.agu ∧
    (pruLotIn k level tonnes held grade s).fca = s.fca ∧
    (pruLotIn k level tonnes held grade s).conditions = s.conditions ∧
    (pruLotIn k level tonnes held grade s).settings = s.settings ∧
    (pruLotIn k level tonnes held grade s).stl = s.stl ∧
    (pruLotIn k level tonnes held grade s).microseconds = s.microseconds ∧
    (pruLotIn k level tonnes held grade s).freeCount = s.freeCount ∧
    (pruLotIn k level tonnes held grade s).pending = s.pending ∧
    (pruLotIn k level tonnes held grade s).lkc.sending = s.lkc.sending ∧
    (pruLotIn k level tonnes held grade s).lkc.discarding = s.lkc.discarding ∧
    (pruLotIn k level tonnes held grade s).lpt.mask = s.lpt.mask ∧
    (pruLotIn k level tonnes held grade s).lpt.answer = s.lpt.answer ∧
    (pruLotIn k level tonnes held grade s).lpt.holdRequest = s.lpt.holdRequest ∧
    (pruLotIn k level tonnes held grade s).lpt.configDigest = s.lpt.configDigest := by
  unfold pruLotIn
  ((try dsimp only) <;> (repeat' split) <;> (try rfl) <;> simp)

@[simp] theorem pruBroken_frame (k level passed : Nat) (cleared : Bool) (s : State) :
    (pruBroken k level passed cleared s).rsc = s.rsc ∧
    (pruBroken k level passed cleared s).agu = s.agu ∧
    (pruBroken k level passed cleared s).fca = s.fca ∧
    (pruBroken k level passed cleared s).conditions = s.conditions ∧
    (pruBroken k level passed cleared s).settings = s.settings ∧
    (pruBroken k level passed cleared s).stl = s.stl ∧
    (pruBroken k level passed cleared s).microseconds = s.microseconds ∧
    (pruBroken k level passed cleared s).freeCount = s.freeCount ∧
    (pruBroken k level passed cleared s).pending = s.pending ∧
    (pruBroken k level passed cleared s).lkc.sending = s.lkc.sending ∧
    (pruBroken k level passed cleared s).lkc.discarding = s.lkc.discarding ∧
    (pruBroken k level passed cleared s).lpt.mask = s.lpt.mask ∧
    (pruBroken k level passed cleared s).lpt.answer = s.lpt.answer ∧
    (pruBroken k level passed cleared s).lpt.holdRequest = s.lpt.holdRequest ∧
    (pruBroken k level passed cleared s).lpt.configDigest = s.lpt.configDigest := by
  unfold pruBroken
  ((try dsimp only) <;> (repeat' split) <;> (try rfl) <;> simp)

@[simp] theorem pruDraw_frame (chute tonnes : Nat) (s : State) :
    (pruDraw chute tonnes s).agu = s.agu ∧
    (pruDraw chute tonnes s).settings = s.settings ∧
    (pruDraw chute tonnes s).stl = s.stl ∧
    (pruDraw chute tonnes s).microseconds = s.microseconds ∧
    (pruDraw chute tonnes s).freeCount = s.freeCount ∧
    (pruDraw chute tonnes s).pending = s.pending ∧
    (pruDraw chute tonnes s).lkc.discarding = s.lkc.discarding ∧
    (pruDraw chute tonnes s).rsc.roundTime = s.rsc.roundTime ∧
    (pruDraw chute tonnes s).rsc.paused = s.rsc.paused ∧
    (pruDraw chute tonnes s).rsc.span = s.rsc.span ∧
    (pruDraw chute tonnes s).lpt.mask = s.lpt.mask ∧
    (pruDraw chute tonnes s).lpt.answer = s.lpt.answer ∧
    (pruDraw chute tonnes s).lpt.holdRequest = s.lpt.holdRequest ∧
    (pruDraw chute tonnes s).lpt.configDigest = s.lpt.configDigest ∧
    (pruDraw chute tonnes s).fca.sightingCount = s.fca.sightingCount := by
  unfold pruDraw
  ((try dsimp only) <;> (repeat' split) <;> (try rfl) <;> simp)

@[simp] theorem pruSighting_frame (k measured : Nat) (s : State) :
    (pruSighting k measured s).agu = s.agu ∧
    (pruSighting k measured s).settings = s.settings ∧
    (pruSighting k measured s).stl = s.stl ∧
    (pruSighting k measured s).microseconds = s.microseconds ∧
    (pruSighting k measured s).freeCount = s.freeCount ∧
    (pruSighting k measured s).pending = s.pending ∧
    (pruSighting k measured s).lkc.discarding = s.lkc.discarding ∧
    (pruSighting k measured s).rsc.roundTime = s.rsc.roundTime ∧
    (pruSighting k measured s).rsc.paused = s.rsc.paused ∧
    (pruSighting k measured s).rsc.span = s.rsc.span ∧
    (pruSighting k measured s).lpt.mask = s.lpt.mask ∧
    (pruSighting k measured s).lpt.answer = s.lpt.answer ∧
    (pruSighting k measured s).lpt.holdRequest = s.lpt.holdRequest ∧
    (pruSighting k measured s).lpt.configDigest = s.lpt.configDigest := by
  unfold pruSighting
  ((try dsimp only) <;> (repeat' split) <;> (try rfl) <;> simp)

@[simp] theorem pruHangup_frame (chute : Nat) (s : State) :
    (pruHangup chute s).rsc = s.rsc ∧
    (pruHangup chute s).fca = s.fca ∧
    (pruHangup chute s).conditions = s.conditions ∧
    (pruHangup chute s).settings = s.settings ∧
    (pruHangup chute s).stl = s.stl ∧
    (pruHangup chute s).microseconds = s.microseconds ∧
    (pruHangup chute s).freeCount = s.freeCount ∧
    (pruHangup chute s).pending = s.pending ∧
    (pruHangup chute s).lkc.sending = s.lkc.sending ∧
    (pruHangup chute s).lkc.discarding = s.lkc.discarding ∧
    (pruHangup chute s).agu.receiver = s.agu.receiver ∧
    (pruHangup chute s).lpt.mask = s.lpt.mask ∧
    (pruHangup chute s).lpt.answer = s.lpt.answer ∧
    (pruHangup chute s).lpt.holdRequest = s.lpt.holdRequest ∧
    (pruHangup chute s).lpt.configDigest = s.lpt.configDigest := by
  unfold pruHangup
  ((try dsimp only) <;> (repeat' split) <;> (try rfl) <;> simp)

@[simp] theorem pruUnhang_frame (chute : Nat) (s : State) :
    (pruUnhang chute s).rsc = s.rsc ∧
    (pruUnhang chute s).agu = s.agu ∧
    (pruUnhang chute s).fca = s.fca ∧
    (pruUnhang chute s).conditions = s.conditions ∧
    (pruUnhang chute s).settings = s.settings ∧
    (pruUnhang chute s).stl = s.stl ∧
    (pruUnhang chute s).microseconds = s.microseconds ∧
    (pruUnhang chute s).freeCount = s.freeCount ∧
    (pruUnhang chute s).pending = s.pending ∧
    (pruUnhang chute s).lkc.sending = s.lkc.sending ∧
    (pruUnhang chute s).lkc.discarding = s.lkc.discarding ∧
    (pruUnhang chute s).lpt.mask = s.lpt.mask ∧
    (pruUnhang chute s).lpt.answer = s.lpt.answer ∧
    (pruUnhang chute s).lpt.holdRequest = s.lpt.holdRequest ∧
    (pruUnhang chute s).lpt.configDigest = s.lpt.configDigest := by
  unfold pruUnhang
  ((try dsimp only) <;> (repeat' split) <;> (try rfl) <;> simp)

@[simp] theorem pruRelease_frame (k code : Nat) (s : State) :
    (pruRelease k code s).rsc = s.rsc ∧
    (pruRelease k code s).agu = s.agu ∧
    (pruRelease k code s).fca = s.fca ∧
    (pruRelease k code s).conditions = s.conditions ∧
    (pruRelease k code s).settings = s.settings ∧
    (pruRelease k code s).stl = s.stl ∧
    (pruRelease k code s).microseconds = s.microseconds ∧
    (pruRelease k code s).freeCount = s.freeCount ∧
    (pruRelease k code s).pending = s.pending ∧
    (pruRelease k code s).lkc.sending = s.lkc.sending ∧
    (pruRelease k code s).lkc.discarding = s.lkc.discarding ∧
    (pruRelease k code s).lpt.mask = s.lpt.mask ∧
    (pruRelease k code s).lpt.answer = s.lpt.answer ∧
    (pruRelease k code s).lpt.holdRequest = s.lpt.holdRequest ∧
    (pruRelease k code s).lpt.configDigest = s.lpt.configDigest := by
  unfold pruRelease
  ((try dsimp only) <;> (repeat' split) <;> (try rfl) <;> simp)

@[simp] theorem pruWithdraw_frame (k code : Nat) (s : State) :
    (pruWithdraw k code s).rsc = s.rsc ∧
    (pruWithdraw k code s).agu = s.agu ∧
    (pruWithdraw k code s).fca = s.fca ∧
    (pruWithdraw k code s).conditions = s.conditions ∧
    (pruWithdraw k code s).settings = s.settings ∧
    (pruWithdraw k code s).stl = s.stl ∧
    (pruWithdraw k code s).microseconds = s.microseconds ∧
    (pruWithdraw k code s).freeCount = s.freeCount ∧
    (pruWithdraw k code s).pending = s.pending ∧
    (pruWithdraw k code s).lkc.sending = s.lkc.sending ∧
    (pruWithdraw k code s).lkc.discarding = s.lkc.discarding ∧
    (pruWithdraw k code s).lpt.mask = s.lpt.mask ∧
    (pruWithdraw k code s).lpt.answer = s.lpt.answer ∧
    (pruWithdraw k code s).lpt.holdRequest = s.lpt.holdRequest ∧
    (pruWithdraw k code s).lpt.configDigest = s.lpt.configDigest := by
  unfold pruWithdraw
  ((try dsimp only) <;> (repeat' split) <;> (try rfl) <;> simp)

@[simp] theorem handClaim_frame (k : Nat) (row : Row) (o : ClaimOutcome) (s : State) :
    (handClaim k row o s).rsc = s.rsc ∧
    (handClaim k row o s).record = s.record ∧
    (handClaim k row o s).agu = s.agu ∧
    (handClaim k row o s).fca = s.fca ∧
    (handClaim k row o s).conditions = s.conditions ∧
    (handClaim k row o s).settings = s.settings ∧
    (handClaim k row o s).stl = s.stl ∧
    (handClaim k row o s).microseconds = s.microseconds ∧
    (handClaim k row o s).freeCount = s.freeCount ∧
    (handClaim k row o s).pending = s.pending ∧
    (handClaim k row o s).lkc.sending = s.lkc.sending ∧
    (handClaim k row o s).lkc.discarding = s.lkc.discarding ∧
    (handClaim k row o s).lpt.mask = s.lpt.mask ∧
    (handClaim k row o s).lpt.answer = s.lpt.answer ∧
    (handClaim k row o s).lpt.holdRequest = s.lpt.holdRequest ∧
    (handClaim k row o s).lpt.configDigest = s.lpt.configDigest := by
  unfold handClaim
  ((try dsimp only) <;> (repeat' split) <;> (try rfl) <;> simp)

@[simp] theorem pruClaim_frame (k code purpose : Nat) (s : State) :
    (pruClaim k code purpose s).rsc = s.rsc ∧
    (pruClaim k code purpose s).agu = s.agu ∧
    (pruClaim k code purpose s).fca = s.fca ∧
    (pruClaim k code purpose s).conditions = s.conditions ∧
    (pruClaim k code purpose s).settings = s.settings ∧
    (pruClaim k code purpose s).stl = s.stl ∧
    (pruClaim k code purpose s).microseconds = s.microseconds ∧
    (pruClaim k code purpose s).freeCount = s.freeCount ∧
    (pruClaim k code purpose s).pending = s.pending ∧
    (pruClaim k code purpose s).lkc.sending = s.lkc.sending ∧
    (pruClaim k code purpose s).lkc.discarding = s.lkc.discarding ∧
    (pruClaim k code purpose s).lpt.mask = s.lpt.mask ∧
    (pruClaim k code purpose s).lpt.answer = s.lpt.answer ∧
    (pruClaim k code purpose s).lpt.holdRequest = s.lpt.holdRequest ∧
    (pruClaim k code purpose s).lpt.configDigest = s.lpt.configDigest := by
  unfold pruClaim
  ((try dsimp only) <;> (repeat' split) <;> (try rfl) <;> simp)

@[simp] theorem pruStatus_frame (k : Nat) (f : StatusFields) (s : State) :
    (pruStatus k f s).rsc = s.rsc ∧
    (pruStatus k f s).agu = s.agu ∧
    (pruStatus k f s).fca = s.fca ∧
    (pruStatus k f s).conditions = s.conditions ∧
    (pruStatus k f s).settings = s.settings ∧
    (pruStatus k f s).stl = s.stl ∧
    (pruStatus k f s).microseconds = s.microseconds ∧
    (pruStatus k f s).freeCount = s.freeCount ∧
    (pruStatus k f s).pending = s.pending ∧
    (pruStatus k f s).lkc.sending = s.lkc.sending ∧
    (pruStatus k f s).lkc.discarding = s.lkc.discarding ∧
    (pruStatus k f s).lpt.mask = s.lpt.mask ∧
    (pruStatus k f s).lpt.answer = s.lpt.answer ∧
    (pruStatus k f s).lpt.holdRequest = s.lpt.holdRequest ∧
    (pruStatus k f s).lpt.configDigest = s.lpt.configDigest := by
  unfold pruStatus
  ((try dsimp only) <;> (repeat' split) <;> (try rfl) <;> simp)

@[simp] theorem rscStatus_frame (k : Nat) (f : StatusFields) (time : Nat) (s : State) :
    (rscStatus k f time s).lkc = s.lkc ∧
    (rscStatus k f time s).record = s.record ∧
    (rscStatus k f time s).agu = s.agu ∧
    (rscStatus k f time s).tbs = s.tbs ∧
    (rscStatus k f time s).dre = s.dre ∧
    (rscStatus k f time s).fca = s.fca ∧
    (rscStatus k f time s).conditions = s.conditions ∧
    (rscStatus k f time s).settings = s.settings ∧
    (rscStatus k f time s).lpt = s.lpt ∧
    (rscStatus k f time s).stl = s.stl ∧
    (rscStatus k f time s).microseconds = s.microseconds ∧
    (rscStatus k f time s).freeCount = s.freeCount ∧
    (rscStatus k f time s).pending = s.pending ∧
    (rscStatus k f time s).rsc.link = s.rsc.link ∧
    (rscStatus k f time s).rsc.paused = s.rsc.paused ∧
    (rscStatus k f time s).rsc.span = s.rsc.span := by
  unfold rscStatus
  ((try dsimp only) <;> (repeat' split) <;> (try rfl) <;> simp)

end Sys2Proof.Machine
end

