-- ==== Sys2Proof/Laws/Rounds.lean ====
section
/-! SUPPORT. Frames of the operations of Machine/Rounds.lean: what each leaves as it was. -/

namespace Sys2Proof.Machine

@[simp] theorem countLeases_frame (s : State) :
    (countLeases s).rsc = s.rsc ∧
    (countLeases s).agu = s.agu ∧
    (countLeases s).fca = s.fca ∧
    (countLeases s).conditions = s.conditions ∧
    (countLeases s).settings = s.settings ∧
    (countLeases s).stl = s.stl ∧
    (countLeases s).microseconds = s.microseconds ∧
    (countLeases s).freeCount = s.freeCount ∧
    (countLeases s).pending = s.pending ∧
    (countLeases s).lkc.sending = s.lkc.sending ∧
    (countLeases s).lkc.discarding = s.lkc.discarding ∧
    (countLeases s).lpt.mask = s.lpt.mask ∧
    (countLeases s).lpt.answer = s.lpt.answer ∧
    (countLeases s).lpt.holdRequest = s.lpt.holdRequest ∧
    (countLeases s).lpt.configDigest = s.lpt.configDigest := by
  unfold countLeases
  ((try dsimp only) <;> (repeat' split) <;> (try rfl) <;> simp)

@[simp] theorem ageEntries_frame (s : State) :
    (ageEntries s).rsc = s.rsc ∧
    (ageEntries s).agu = s.agu ∧
    (ageEntries s).fca = s.fca ∧
    (ageEntries s).conditions = s.conditions ∧
    (ageEntries s).settings = s.settings ∧
    (ageEntries s).stl = s.stl ∧
    (ageEntries s).microseconds = s.microseconds ∧
    (ageEntries s).freeCount = s.freeCount ∧
    (ageEntries s).pending = s.pending ∧
    (ageEntries s).lkc.sending = s.lkc.sending ∧
    (ageEntries s).lkc.discarding = s.lkc.discarding ∧
    (ageEntries s).lpt.mask = s.lpt.mask ∧
    (ageEntries s).lpt.answer = s.lpt.answer ∧
    (ageEntries s).lpt.holdRequest = s.lpt.holdRequest ∧
    (ageEntries s).lpt.configDigest = s.lpt.configDigest := by
  unfold ageEntries
  ((try dsimp only) <;> (repeat' split) <;> (try rfl) <;> simp)

@[simp] theorem claimWork_frame (s : State) :
    (claimWork s).rsc = s.rsc ∧
    (claimWork s).agu = s.agu ∧
    (claimWork s).fca = s.fca ∧
    (claimWork s).conditions = s.conditions ∧
    (claimWork s).settings = s.settings ∧
    (claimWork s).stl = s.stl ∧
    (claimWork s).microseconds = s.microseconds ∧
    (claimWork s).freeCount = s.freeCount ∧
    (claimWork s).pending = s.pending ∧
    (claimWork s).lkc.sending = s.lkc.sending ∧
    (claimWork s).lkc.discarding = s.lkc.discarding ∧
    (claimWork s).lpt.mask = s.lpt.mask ∧
    (claimWork s).lpt.answer = s.lpt.answer ∧
    (claimWork s).lpt.holdRequest = s.lpt.holdRequest ∧
    (claimWork s).lpt.configDigest = s.lpt.configDigest := by
  unfold claimWork
  ((try dsimp only) <;> (repeat' split) <;> (try rfl) <;> simp)

@[simp] theorem roundDigest_frame (s : State) :
    (roundDigest s).lkc = s.lkc ∧
    (roundDigest s).rsc = s.rsc ∧
    (roundDigest s).record = s.record ∧
    (roundDigest s).tbs = s.tbs ∧
    (roundDigest s).dre = s.dre ∧
    (roundDigest s).fca = s.fca ∧
    (roundDigest s).conditions = s.conditions ∧
    (roundDigest s).settings = s.settings ∧
    (roundDigest s).lpt = s.lpt ∧
    (roundDigest s).stl = s.stl ∧
    (roundDigest s).microseconds = s.microseconds ∧
    (roundDigest s).freeCount = s.freeCount ∧
    (roundDigest s).pending = s.pending ∧
    (roundDigest s).agu.tracker = s.agu.tracker ∧
    (roundDigest s).agu.receiver = s.agu.receiver := by
  unfold roundDigest
  ((try dsimp only) <;> (repeat' split) <;> (try rfl) <;> simp)

@[simp] theorem foundRecord_frame (s : State) :
    (foundRecord s).lkc = s.lkc ∧
    (foundRecord s).tbs = s.tbs ∧
    (foundRecord s).dre = s.dre ∧
    (foundRecord s).fca = s.fca ∧
    (foundRecord s).conditions = s.conditions ∧
    (foundRecord s).settings = s.settings ∧
    (foundRecord s).stl = s.stl ∧
    (foundRecord s).microseconds = s.microseconds ∧
    (foundRecord s).freeCount = s.freeCount ∧
    (foundRecord s).pending = s.pending ∧
    (foundRecord s).rsc.roundTime = s.rsc.roundTime ∧
    (foundRecord s).rsc.paused = s.rsc.paused ∧
    (foundRecord s).rsc.span = s.rsc.span ∧
    (foundRecord s).agu.receiver = s.agu.receiver ∧
    (foundRecord s).lpt.mask = s.lpt.mask ∧
    (foundRecord s).lpt.answer = s.lpt.answer ∧
    (foundRecord s).lpt.holdRequest = s.lpt.holdRequest ∧
    (foundRecord s).lpt.access = s.lpt.access ∧
    (foundRecord s).lpt.configDigest = s.lpt.configDigest := by
  unfold foundRecord
  ((try dsimp only) <;> (repeat' split) <;> (try rfl) <;> simp)

@[simp] theorem decideJoining_frame (s : State) :
    (decideJoining s).tbs = s.tbs ∧
    (decideJoining s).dre = s.dre ∧
    (decideJoining s).fca = s.fca ∧
    (decideJoining s).conditions = s.conditions ∧
    (decideJoining s).settings = s.settings ∧
    (decideJoining s).stl = s.stl ∧
    (decideJoining s).microseconds = s.microseconds ∧
    (decideJoining s).freeCount = s.freeCount ∧
    (decideJoining s).pending = s.pending ∧
    (decideJoining s).lkc.sending = s.lkc.sending ∧
    (decideJoining s).lkc.discarding = s.lkc.discarding ∧
    (decideJoining s).rsc.roundTime = s.rsc.roundTime ∧
    (decideJoining s).rsc.paused = s.rsc.paused ∧
    (decideJoining s).rsc.span = s.rsc.span ∧
    (decideJoining s).lpt.mask = s.lpt.mask ∧
    (decideJoining s).lpt.answer = s.lpt.answer ∧
    (decideJoining s).lpt.holdRequest = s.lpt.holdRequest ∧
    (decideJoining s).lpt.access = s.lpt.access ∧
    (decideJoining s).lpt.configDigest = s.lpt.configDigest := by
  unfold decideJoining
  ((try dsimp only) <;> (repeat' split) <;> (try rfl) <;> simp)

@[simp] theorem dwellCount_frame (s : State) :
    (dwellCount s).rsc = s.rsc ∧
    (dwellCount s).record = s.record ∧
    (dwellCount s).agu = s.agu ∧
    (dwellCount s).tbs = s.tbs ∧
    (dwellCount s).fca = s.fca ∧
    (dwellCount s).conditions = s.conditions ∧
    (dwellCount s).settings = s.settings ∧
    (dwellCount s).stl = s.stl ∧
    (dwellCount s).microseconds = s.microseconds ∧
    (dwellCount s).freeCount = s.freeCount ∧
    (dwellCount s).pending = s.pending ∧
    (dwellCount s).lkc.sending = s.lkc.sending ∧
    (dwellCount s).lkc.discarding = s.lkc.discarding ∧
    (dwellCount s).lpt.mask = s.lpt.mask ∧
    (dwellCount s).lpt.answer = s.lpt.answer ∧
    (dwellCount s).lpt.holdRequest = s.lpt.holdRequest ∧
    (dwellCount s).lpt.access = s.lpt.access ∧
    (dwellCount s).lpt.configDigest = s.lpt.configDigest := by
  unfold dwellCount
  ((try dsimp only) <;> (repeat' split) <;> (try rfl) <;> simp)

@[simp] theorem drawRound_frame (s : State) :
    (drawRound s).rsc = s.rsc ∧
    (drawRound s).record = s.record ∧
    (drawRound s).agu = s.agu ∧
    (drawRound s).tbs = s.tbs ∧
    (drawRound s).fca = s.fca ∧
    (drawRound s).conditions = s.conditions ∧
    (drawRound s).settings = s.settings ∧
    (drawRound s).lpt = s.lpt ∧
    (drawRound s).stl = s.stl ∧
    (drawRound s).microseconds = s.microseconds ∧
    (drawRound s).freeCount = s.freeCount ∧
    (drawRound s).pending = s.pending ∧
    (drawRound s).lkc.sending = s.lkc.sending ∧
    (drawRound s).lkc.discarding = s.lkc.discarding ∧
    (drawRound s).dre.state = s.dre.state ∧
    (drawRound s).dre.gate = s.dre.gate := by
  unfold drawRound
  ((try dsimp only) <;> (repeat' split) <;> (try rfl) <;> simp)

@[simp] theorem flowRound_frame (s : State) :
    (flowRound s).rsc = s.rsc ∧
    (flowRound s).record = s.record ∧
    (flowRound s).agu = s.agu ∧
    (flowRound s).tbs = s.tbs ∧
    (flowRound s).fca = s.fca ∧
    (flowRound s).conditions = s.conditions ∧
    (flowRound s).settings = s.settings ∧
    (flowRound s).stl = s.stl ∧
    (flowRound s).microseconds = s.microseconds ∧
    (flowRound s).freeCount = s.freeCount ∧
    (flowRound s).pending = s.pending ∧
    (flowRound s).lkc.sending = s.lkc.sending ∧
    (flowRound s).lkc.discarding = s.lkc.discarding ∧
    (flowRound s).lpt.mask = s.lpt.mask ∧
    (flowRound s).lpt.answer = s.lpt.answer ∧
    (flowRound s).lpt.holdRequest = s.lpt.holdRequest ∧
    (flowRound s).lpt.access = s.lpt.access ∧
    (flowRound s).lpt.configDigest = s.lpt.configDigest := by
  unfold flowRound
  ((try dsimp only) <;> (repeat' split) <;> (try rfl) <;> simp)

@[simp] theorem reofferEngine_frame (s : State) :
    (reofferEngine s).rsc = s.rsc ∧
    (reofferEngine s).record = s.record ∧
    (reofferEngine s).agu = s.agu ∧
    (reofferEngine s).tbs = s.tbs ∧
    (reofferEngine s).fca = s.fca ∧
    (reofferEngine s).conditions = s.conditions ∧
    (reofferEngine s).settings = s.settings ∧
    (reofferEngine s).lpt = s.lpt ∧
    (reofferEngine s).stl = s.stl ∧
    (reofferEngine s).microseconds = s.microseconds ∧
    (reofferEngine s).freeCount = s.freeCount ∧
    (reofferEngine s).pending = s.pending ∧
    (reofferEngine s).lkc.sending = s.lkc.sending ∧
    (reofferEngine s).lkc.discarding = s.lkc.discarding ∧
    (reofferEngine s).dre.state = s.dre.state ∧
    (reofferEngine s).dre.gate = s.dre.gate := by
  unfold reofferEngine
  ((try dsimp only) <;> (repeat' split) <;> (try rfl) <;> simp)

@[simp] theorem engineRound_frame (s : State) :
    (engineRound s).rsc = s.rsc ∧
    (engineRound s).record = s.record ∧
    (engineRound s).agu = s.agu ∧
    (engineRound s).tbs = s.tbs ∧
    (engineRound s).fca = s.fca ∧
    (engineRound s).conditions = s.conditions ∧
    (engineRound s).settings = s.settings ∧
    (engineRound s).stl = s.stl ∧
    (engineRound s).microseconds = s.microseconds ∧
    (engineRound s).freeCount = s.freeCount ∧
    (engineRound s).pending = s.pending ∧
    (engineRound s).lkc.sending = s.lkc.sending ∧
    (engineRound s).lkc.discarding = s.lkc.discarding ∧
    (engineRound s).lpt.mask = s.lpt.mask ∧
    (engineRound s).lpt.answer = s.lpt.answer ∧
    (engineRound s).lpt.holdRequest = s.lpt.holdRequest ∧
    (engineRound s).lpt.access = s.lpt.access ∧
    (engineRound s).lpt.configDigest = s.lpt.configDigest := by
  unfold engineRound
  ((try dsimp only) <;> (repeat' split) <;> (try rfl) <;> simp)

@[simp] theorem offerTbsRelease_frame (s : State) :
    (offerTbsRelease s).rsc = s.rsc ∧
    (offerTbsRelease s).record = s.record ∧
    (offerTbsRelease s).agu = s.agu ∧
    (offerTbsRelease s).dre = s.dre ∧
    (offerTbsRelease s).fca = s.fca ∧
    (offerTbsRelease s).conditions = s.conditions ∧
    (offerTbsRelease s).settings = s.settings ∧
    (offerTbsRelease s).lpt = s.lpt ∧
    (offerTbsRelease s).stl = s.stl ∧
    (offerTbsRelease s).microseconds = s.microseconds ∧
    (offerTbsRelease s).freeCount = s.freeCount ∧
    (offerTbsRelease s).pending = s.pending ∧
    (offerTbsRelease s).lkc.sending = s.lkc.sending ∧
    (offerTbsRelease s).lkc.discarding = s.lkc.discarding ∧
    (offerTbsRelease s).tbs.state = s.tbs.state := by
  unfold offerTbsRelease
  ((try dsimp only) <;> (repeat' split) <;> (try rfl) <;> simp)

@[simp] theorem reofferTbs_frame (s : State) :
    (reofferTbs s).rsc = s.rsc ∧
    (reofferTbs s).record = s.record ∧
    (reofferTbs s).agu = s.agu ∧
    (reofferTbs s).dre = s.dre ∧
    (reofferTbs s).fca = s.fca ∧
    (reofferTbs s).conditions = s.conditions ∧
    (reofferTbs s).settings = s.settings ∧
    (reofferTbs s).lpt = s.lpt ∧
    (reofferTbs s).stl = s.stl ∧
    (reofferTbs s).microseconds = s.microseconds ∧
    (reofferTbs s).freeCount = s.freeCount ∧
    (reofferTbs s).pending = s.pending ∧
    (reofferTbs s).lkc.sending = s.lkc.sending ∧
    (reofferTbs s).lkc.discarding = s.lkc.discarding ∧
    (reofferTbs s).tbs.state = s.tbs.state := by
  unfold reofferTbs
  ((try dsimp only) <;> (repeat' split) <;> (try rfl) <;> simp)

@[simp] theorem sightingRound_frame (s : State) :
    (sightingRound s).rsc = s.rsc ∧
    (sightingRound s).record = s.record ∧
    (sightingRound s).agu = s.agu ∧
    (sightingRound s).tbs = s.tbs ∧
    (sightingRound s).dre = s.dre ∧
    (sightingRound s).conditions = s.conditions ∧
    (sightingRound s).settings = s.settings ∧
    (sightingRound s).lpt = s.lpt ∧
    (sightingRound s).stl = s.stl ∧
    (sightingRound s).microseconds = s.microseconds ∧
    (sightingRound s).freeCount = s.freeCount ∧
    (sightingRound s).pending = s.pending ∧
    (sightingRound s).lkc.sending = s.lkc.sending ∧
    (sightingRound s).lkc.discarding = s.lkc.discarding ∧
    (sightingRound s).fca.channels = s.fca.channels := by
  unfold sightingRound
  ((try dsimp only) <;> (repeat' split) <;> (try rfl) <;> simp)

@[simp] theorem tbsHostSilent_frame (s : State) :
    (tbsHostSilent s).rsc = s.rsc ∧
    (tbsHostSilent s).record = s.record ∧
    (tbsHostSilent s).agu = s.agu ∧
    (tbsHostSilent s).dre = s.dre ∧
    (tbsHostSilent s).fca = s.fca ∧
    (tbsHostSilent s).conditions = s.conditions ∧
    (tbsHostSilent s).settings = s.settings ∧
    (tbsHostSilent s).lpt = s.lpt ∧
    (tbsHostSilent s).stl = s.stl ∧
    (tbsHostSilent s).microseconds = s.microseconds ∧
    (tbsHostSilent s).freeCount = s.freeCount ∧
    (tbsHostSilent s).pending = s.pending ∧
    (tbsHostSilent s).lkc.sending = s.lkc.sending ∧
    (tbsHostSilent s).lkc.discarding = s.lkc.discarding := by
  unfold tbsHostSilent
  ((try dsimp only) <;> (repeat' split) <;> (try rfl) <;> simp)

@[simp] theorem accessHostSilent_frame (s : State) :
    (accessHostSilent s).rsc = s.rsc ∧
    (accessHostSilent s).record = s.record ∧
    (accessHostSilent s).agu = s.agu ∧
    (accessHostSilent s).tbs = s.tbs ∧
    (accessHostSilent s).dre = s.dre ∧
    (accessHostSilent s).fca = s.fca ∧
    (accessHostSilent s).conditions = s.conditions ∧
    (accessHostSilent s).settings = s.settings ∧
    (accessHostSilent s).stl = s.stl ∧
    (accessHostSilent s).microseconds = s.microseconds ∧
    (accessHostSilent s).freeCount = s.freeCount ∧
    (accessHostSilent s).pending = s.pending ∧
    (accessHostSilent s).lkc.sending = s.lkc.sending ∧
    (accessHostSilent s).lkc.discarding = s.lkc.discarding ∧
    (accessHostSilent s).lpt.mask = s.lpt.mask ∧
    (accessHostSilent s).lpt.answer = s.lpt.answer ∧
    (accessHostSilent s).lpt.holdRequest = s.lpt.holdRequest ∧
    (accessHostSilent s).lpt.configDigest = s.lpt.configDigest := by
  unfold accessHostSilent
  ((try dsimp only) <;> (repeat' split) <;> (try rfl) <;> simp)

@[simp] theorem abandonForHost_frame (tbs access : Bool) (s : State) :
    (abandonForHost tbs access s).rsc = s.rsc ∧
    (abandonForHost tbs access s).record = s.record ∧
    (abandonForHost tbs access s).agu = s.agu ∧
    (abandonForHost tbs access s).dre = s.dre ∧
    (abandonForHost tbs access s).fca = s.fca ∧
    (abandonForHost tbs access s).conditions = s.conditions ∧
    (abandonForHost tbs access s).settings = s.settings ∧
    (abandonForHost tbs access s).stl = s.stl ∧
    (abandonForHost tbs access s).microseconds = s.microseconds ∧
    (abandonForHost tbs access s).freeCount = s.freeCount ∧
    (abandonForHost tbs access s).pending = s.pending ∧
    (abandonForHost tbs access s).lkc.sending = s.lkc.sending ∧
    (abandonForHost tbs access s).lkc.discarding = s.lkc.discarding ∧
    (abandonForHost tbs access s).lpt.mask = s.lpt.mask ∧
    (abandonForHost tbs access s).lpt.answer = s.lpt.answer ∧
    (abandonForHost tbs access s).lpt.holdRequest = s.lpt.holdRequest ∧
    (abandonForHost tbs access s).lpt.configDigest = s.lpt.configDigest := by
  unfold abandonForHost
  ((try dsimp only) <;> (repeat' split) <;> (try rfl) <;> simp)

@[simp] theorem raiseHostSilent_frame (s : State) :
    (raiseHostSilent s).record = s.record ∧
    (raiseHostSilent s).agu = s.agu ∧
    (raiseHostSilent s).settings = s.settings ∧
    (raiseHostSilent s).stl = s.stl ∧
    (raiseHostSilent s).microseconds = s.microseconds ∧
    (raiseHostSilent s).pending = s.pending ∧
    (raiseHostSilent s).lkc.discarding = s.lkc.discarding ∧
    (raiseHostSilent s).rsc.roundTime = s.rsc.roundTime ∧
    (raiseHostSilent s).rsc.paused = s.rsc.paused ∧
    (raiseHostSilent s).rsc.span = s.rsc.span ∧
    (raiseHostSilent s).lpt.mask = s.lpt.mask ∧
    (raiseHostSilent s).lpt.answer = s.lpt.answer ∧
    (raiseHostSilent s).lpt.holdRequest = s.lpt.holdRequest ∧
    (raiseHostSilent s).lpt.configDigest = s.lpt.configDigest ∧
    (raiseHostSilent s).fca.sightingCount = s.fca.sightingCount := by
  unfold raiseHostSilent
  ((try dsimp only) <;> (repeat' split) <;> (try rfl) <;> simp)

@[simp] theorem hostCountdown_frame (s : State) :
    (hostCountdown s).record = s.record ∧
    (hostCountdown s).agu = s.agu ∧
    (hostCountdown s).settings = s.settings ∧
    (hostCountdown s).stl = s.stl ∧
    (hostCountdown s).microseconds = s.microseconds ∧
    (hostCountdown s).pending = s.pending ∧
    (hostCountdown s).lkc.discarding = s.lkc.discarding ∧
    (hostCountdown s).rsc.roundTime = s.rsc.roundTime ∧
    (hostCountdown s).rsc.paused = s.rsc.paused ∧
    (hostCountdown s).rsc.span = s.rsc.span ∧
    (hostCountdown s).lpt.mask = s.lpt.mask ∧
    (hostCountdown s).lpt.answer = s.lpt.answer ∧
    (hostCountdown s).lpt.holdRequest = s.lpt.holdRequest ∧
    (hostCountdown s).lpt.configDigest = s.lpt.configDigest ∧
    (hostCountdown s).fca.sightingCount = s.fca.sightingCount := by
  unfold hostCountdown
  ((try dsimp only) <;> (repeat' split) <;> (try rfl) <;> simp)

@[simp] theorem closeSequence_frame (sequence : Nat) (s : State) :
    (closeSequence sequence s).rsc = s.rsc ∧
    (closeSequence sequence s).record = s.record ∧
    (closeSequence sequence s).agu = s.agu ∧
    (closeSequence sequence s).tbs = s.tbs ∧
    (closeSequence sequence s).dre = s.dre ∧
    (closeSequence sequence s).fca = s.fca ∧
    (closeSequence sequence s).settings = s.settings ∧
    (closeSequence sequence s).stl = s.stl ∧
    (closeSequence sequence s).microseconds = s.microseconds ∧
    (closeSequence sequence s).freeCount = s.freeCount ∧
    (closeSequence sequence s).pending = s.pending ∧
    (closeSequence sequence s).lkc.sending = s.lkc.sending ∧
    (closeSequence sequence s).lkc.queue = s.lkc.queue ∧
    (closeSequence sequence s).lkc.discarding = s.lkc.discarding ∧
    (closeSequence sequence s).lpt.mask = s.lpt.mask ∧
    (closeSequence sequence s).lpt.answer = s.lpt.answer ∧
    (closeSequence sequence s).lpt.holdRequest = s.lpt.holdRequest ∧
    (closeSequence sequence s).lpt.access = s.lpt.access ∧
    (closeSequence sequence s).lpt.configDigest = s.lpt.configDigest := by
  unfold closeSequence
  ((try dsimp only) <;> (repeat' split) <;> (try rfl) <;> simp)

@[simp] theorem joinRound_frame (s : State) :
    (joinRound s).lkc = s.lkc ∧
    (joinRound s).record = s.record ∧
    (joinRound s).agu = s.agu ∧
    (joinRound s).tbs = s.tbs ∧
    (joinRound s).dre = s.dre ∧
    (joinRound s).fca = s.fca ∧
    (joinRound s).conditions = s.conditions ∧
    (joinRound s).settings = s.settings ∧
    (joinRound s).stl = s.stl ∧
    (joinRound s).microseconds = s.microseconds ∧
    (joinRound s).freeCount = s.freeCount ∧
    (joinRound s).pending = s.pending ∧
    (joinRound s).rsc.roundTime = s.rsc.roundTime ∧
    (joinRound s).rsc.paused = s.rsc.paused ∧
    (joinRound s).rsc.span = s.rsc.span ∧
    (joinRound s).lpt.mask = s.lpt.mask ∧
    (joinRound s).lpt.answer = s.lpt.answer ∧
    (joinRound s).lpt.holdRequest = s.lpt.holdRequest ∧
    (joinRound s).lpt.access = s.lpt.access ∧
    (joinRound s).lpt.configDigest = s.lpt.configDigest := by
  unfold joinRound
  ((try dsimp only) <;> (repeat' split) <;> (try rfl) <;> simp)

@[simp] theorem takeRound_frame (round sequence : Nat) (paused : Bool) (s : State) :
    (takeRound round sequence paused s).record = s.record ∧
    (takeRound round sequence paused s).agu = s.agu ∧
    (takeRound round sequence paused s).tbs = s.tbs ∧
    (takeRound round sequence paused s).dre = s.dre ∧
    (takeRound round sequence paused s).fca = s.fca ∧
    (takeRound round sequence paused s).settings = s.settings ∧
    (takeRound round sequence paused s).stl = s.stl ∧
    (takeRound round sequence paused s).microseconds = s.microseconds ∧
    (takeRound round sequence paused s).freeCount = s.freeCount ∧
    (takeRound round sequence paused s).pending = s.pending ∧
    (takeRound round sequence paused s).lkc.sending = s.lkc.sending ∧
    (takeRound round sequence paused s).lkc.queue = s.lkc.queue ∧
    (takeRound round sequence paused s).lkc.discarding = s.lkc.discarding ∧
    (takeRound round sequence paused s).lpt.mask = s.lpt.mask ∧
    (takeRound round sequence paused s).lpt.answer = s.lpt.answer ∧
    (takeRound round sequence paused s).lpt.holdRequest = s.lpt.holdRequest ∧
    (takeRound round sequence paused s).lpt.access = s.lpt.access ∧
    (takeRound round sequence paused s).lpt.configDigest = s.lpt.configDigest := by
  unfold takeRound
  ((try dsimp only) <;> (repeat' split) <;> (try rfl) <;> simp)

@[simp] theorem agreementRound_frame (s : State) :
    (agreementRound s).settings = s.settings ∧
    (agreementRound s).stl = s.stl ∧
    (agreementRound s).microseconds = s.microseconds ∧
    (agreementRound s).freeCount = s.freeCount ∧
    (agreementRound s).pending = s.pending ∧
    (agreementRound s).lkc.discarding = s.lkc.discarding ∧
    (agreementRound s).rsc.roundTime = s.rsc.roundTime ∧
    (agreementRound s).rsc.paused = s.rsc.paused ∧
    (agreementRound s).rsc.span = s.rsc.span ∧
    (agreementRound s).lpt.mask = s.lpt.mask ∧
    (agreementRound s).lpt.answer = s.lpt.answer ∧
    (agreementRound s).lpt.holdRequest = s.lpt.holdRequest ∧
    (agreementRound s).lpt.configDigest = s.lpt.configDigest ∧
    (agreementRound s).fca.sightingCount = s.fca.sightingCount := by
  unfold agreementRound
  ((try dsimp only) <;> (repeat' split) <;> (try rfl) <;> simp)

@[simp] theorem roundStart_frame (round sequence : Nat) (paused : Bool) (s : State) :
    (roundStart round sequence paused s).settings = s.settings ∧
    (roundStart round sequence paused s).stl = s.stl ∧
    (roundStart round sequence paused s).microseconds = s.microseconds ∧
    (roundStart round sequence paused s).pending = s.pending ∧
    (roundStart round sequence paused s).lkc.discarding = s.lkc.discarding ∧
    (roundStart round sequence paused s).lpt.mask = s.lpt.mask ∧
    (roundStart round sequence paused s).lpt.answer = s.lpt.answer ∧
    (roundStart round sequence paused s).lpt.holdRequest = s.lpt.holdRequest ∧
    (roundStart round sequence paused s).lpt.configDigest = s.lpt.configDigest := by
  unfold roundStart
  ((try dsimp only) <;> (repeat' split) <;> (try rfl) <;> simp)

@[simp] theorem rscOpening_frame (round sequence : Nat) (paused : Bool) (config : Word16) (s : State) :
    (rscOpening round sequence paused config s).settings = s.settings ∧
    (rscOpening round sequence paused config s).stl = s.stl ∧
    (rscOpening round sequence paused config s).microseconds = s.microseconds ∧
    (rscOpening round sequence paused config s).pending = s.pending ∧
    (rscOpening round sequence paused config s).lkc.discarding = s.lkc.discarding ∧
    (rscOpening round sequence paused config s).lpt.mask = s.lpt.mask ∧
    (rscOpening round sequence paused config s).lpt.answer = s.lpt.answer ∧
    (rscOpening round sequence paused config s).lpt.holdRequest = s.lpt.holdRequest ∧
    (rscOpening round sequence paused config s).lpt.configDigest = s.lpt.configDigest := by
  unfold rscOpening
  ((try dsimp only) <;> (repeat' split) <;> (try rfl) <;> simp)

@[simp] theorem atMark_frame (m : Nat) (s : State) :
    (atMark m s).lkc = s.lkc ∧
    (atMark m s).record = s.record ∧
    (atMark m s).agu = s.agu ∧
    (atMark m s).tbs = s.tbs ∧
    (atMark m s).dre = s.dre ∧
    (atMark m s).fca = s.fca ∧
    (atMark m s).conditions = s.conditions ∧
    (atMark m s).settings = s.settings ∧
    (atMark m s).lpt = s.lpt ∧
    (atMark m s).stl = s.stl ∧
    (atMark m s).microseconds = s.microseconds ∧
    (atMark m s).freeCount = s.freeCount ∧
    (atMark m s).pending = s.pending ∧
    (atMark m s).rsc.link = s.rsc.link ∧
    (atMark m s).rsc.paused = s.rsc.paused ∧
    (atMark m s).rsc.span = s.rsc.span := by
  unfold atMark
  ((try dsimp only) <;> (repeat' split) <;> (try rfl) <;> simp)

@[simp] theorem checkSlot_frame (k : Nat) (s : State) :
    (checkSlot k s).record = s.record ∧
    (checkSlot k s).agu = s.agu ∧
    (checkSlot k s).settings = s.settings ∧
    (checkSlot k s).stl = s.stl ∧
    (checkSlot k s).microseconds = s.microseconds ∧
    (checkSlot k s).freeCount = s.freeCount ∧
    (checkSlot k s).pending = s.pending ∧
    (checkSlot k s).lkc.discarding = s.lkc.discarding ∧
    (checkSlot k s).lpt.mask = s.lpt.mask ∧
    (checkSlot k s).lpt.answer = s.lpt.answer ∧
    (checkSlot k s).lpt.holdRequest = s.lpt.holdRequest ∧
    (checkSlot k s).lpt.configDigest = s.lpt.configDigest ∧
    (checkSlot k s).fca.sightingCount = s.fca.sightingCount := by
  unfold checkSlot
  ((try dsimp only) <;> (repeat' split) <;> (try rfl) <;> simp)

@[simp] theorem statusCheck_frame (owner : Nat) (s : State) :
    (statusCheck owner s).record = s.record ∧
    (statusCheck owner s).agu = s.agu ∧
    (statusCheck owner s).settings = s.settings ∧
    (statusCheck owner s).stl = s.stl ∧
    (statusCheck owner s).microseconds = s.microseconds ∧
    (statusCheck owner s).freeCount = s.freeCount ∧
    (statusCheck owner s).pending = s.pending ∧
    (statusCheck owner s).lkc.discarding = s.lkc.discarding ∧
    (statusCheck owner s).lpt.mask = s.lpt.mask ∧
    (statusCheck owner s).lpt.answer = s.lpt.answer ∧
    (statusCheck owner s).lpt.holdRequest = s.lpt.holdRequest ∧
    (statusCheck owner s).lpt.configDigest = s.lpt.configDigest ∧
    (statusCheck owner s).fca.sightingCount = s.fca.sightingCount := by
  unfold statusCheck
  ((try dsimp only) <;> (repeat' split) <;> (try rfl) <;> simp)

@[simp] theorem statusSlot_frame (busy : Bool) (s : State) :
    (statusSlot busy s).record = s.record ∧
    (statusSlot busy s).agu = s.agu ∧
    (statusSlot busy s).tbs = s.tbs ∧
    (statusSlot busy s).dre = s.dre ∧
    (statusSlot busy s).fca = s.fca ∧
    (statusSlot busy s).conditions = s.conditions ∧
    (statusSlot busy s).settings = s.settings ∧
    (statusSlot busy s).lpt = s.lpt ∧
    (statusSlot busy s).stl = s.stl ∧
    (statusSlot busy s).microseconds = s.microseconds ∧
    (statusSlot busy s).freeCount = s.freeCount ∧
    (statusSlot busy s).pending = s.pending ∧
    (statusSlot busy s).lkc.queue = s.lkc.queue ∧
    (statusSlot busy s).lkc.discarding = s.lkc.discarding ∧
    (statusSlot busy s).rsc.link = s.rsc.link ∧
    (statusSlot busy s).rsc.paused = s.rsc.paused ∧
    (statusSlot busy s).rsc.span = s.rsc.span := by
  unfold statusSlot
  ((try dsimp only) <;> (repeat' split) <;> (try rfl) <;> simp)

@[simp] theorem contend_frame (busy : Bool) (s : State) :
    (contend busy s).record = s.record ∧
    (contend busy s).agu = s.agu ∧
    (contend busy s).settings = s.settings ∧
    (contend busy s).stl = s.stl ∧
    (contend busy s).microseconds = s.microseconds ∧
    (contend busy s).freeCount = s.freeCount ∧
    (contend busy s).pending = s.pending ∧
    (contend busy s).lkc.discarding = s.lkc.discarding ∧
    (contend busy s).rsc.roundTime = s.rsc.roundTime ∧
    (contend busy s).rsc.paused = s.rsc.paused ∧
    (contend busy s).rsc.span = s.rsc.span ∧
    (contend busy s).lpt.mask = s.lpt.mask ∧
    (contend busy s).lpt.answer = s.lpt.answer ∧
    (contend busy s).lpt.holdRequest = s.lpt.holdRequest ∧
    (contend busy s).lpt.configDigest = s.lpt.configDigest ∧
    (contend busy s).fca.sightingCount = s.fca.sightingCount := by
  unfold contend
  ((try dsimp only) <;> (repeat' split) <;> (try rfl) <;> simp)

@[simp] theorem openWindow_frame (i : Nat) (busy : Bool) (s : State) :
    (openWindow i busy s).record = s.record ∧
    (openWindow i busy s).agu = s.agu ∧
    (openWindow i busy s).settings = s.settings ∧
    (openWindow i busy s).stl = s.stl ∧
    (openWindow i busy s).microseconds = s.microseconds ∧
    (openWindow i busy s).freeCount = s.freeCount ∧
    (openWindow i busy s).pending = s.pending ∧
    (openWindow i busy s).lkc.discarding = s.lkc.discarding ∧
    (openWindow i busy s).rsc.paused = s.rsc.paused ∧
    (openWindow i busy s).rsc.span = s.rsc.span ∧
    (openWindow i busy s).lpt.mask = s.lpt.mask ∧
    (openWindow i busy s).lpt.answer = s.lpt.answer ∧
    (openWindow i busy s).lpt.holdRequest = s.lpt.holdRequest ∧
    (openWindow i busy s).lpt.configDigest = s.lpt.configDigest ∧
    (openWindow i busy s).fca.sightingCount = s.fca.sightingCount := by
  unfold openWindow
  ((try dsimp only) <;> (repeat' split) <;> (try rfl) <;> simp)

@[simp] theorem openingBid_frame (busy : Bool) (s : State) :
    (openingBid busy s).record = s.record ∧
    (openingBid busy s).agu = s.agu ∧
    (openingBid busy s).tbs = s.tbs ∧
    (openingBid busy s).dre = s.dre ∧
    (openingBid busy s).fca = s.fca ∧
    (openingBid busy s).conditions = s.conditions ∧
    (openingBid busy s).settings = s.settings ∧
    (openingBid busy s).lpt = s.lpt ∧
    (openingBid busy s).stl = s.stl ∧
    (openingBid busy s).microseconds = s.microseconds ∧
    (openingBid busy s).freeCount = s.freeCount ∧
    (openingBid busy s).pending = s.pending ∧
    (openingBid busy s).lkc.queue = s.lkc.queue ∧
    (openingBid busy s).lkc.discarding = s.lkc.discarding ∧
    (openingBid busy s).rsc.link = s.rsc.link ∧
    (openingBid busy s).rsc.paused = s.rsc.paused ∧
    (openingBid busy s).rsc.span = s.rsc.span := by
  unfold openingBid
  ((try dsimp only) <;> (repeat' split) <;> (try rfl) <;> simp)

@[simp] theorem watchExpiry_frame (s : State) :
    (watchExpiry s).record = s.record ∧
    (watchExpiry s).agu = s.agu ∧
    (watchExpiry s).settings = s.settings ∧
    (watchExpiry s).stl = s.stl ∧
    (watchExpiry s).microseconds = s.microseconds ∧
    (watchExpiry s).freeCount = s.freeCount ∧
    (watchExpiry s).pending = s.pending ∧
    (watchExpiry s).lkc.discarding = s.lkc.discarding ∧
    (watchExpiry s).rsc.paused = s.rsc.paused ∧
    (watchExpiry s).lpt.mask = s.lpt.mask ∧
    (watchExpiry s).lpt.answer = s.lpt.answer ∧
    (watchExpiry s).lpt.holdRequest = s.lpt.holdRequest ∧
    (watchExpiry s).lpt.configDigest = s.lpt.configDigest ∧
    (watchExpiry s).fca.sightingCount = s.fca.sightingCount := by
  unfold watchExpiry
  ((try dsimp only) <;> (repeat' split) <;> (try rfl) <;> simp)

@[simp] theorem listenSpanEnd_frame (s : State) :
    (listenSpanEnd s).record = s.record ∧
    (listenSpanEnd s).agu = s.agu ∧
    (listenSpanEnd s).settings = s.settings ∧
    (listenSpanEnd s).stl = s.stl ∧
    (listenSpanEnd s).microseconds = s.microseconds ∧
    (listenSpanEnd s).freeCount = s.freeCount ∧
    (listenSpanEnd s).pending = s.pending ∧
    (listenSpanEnd s).lkc.discarding = s.lkc.discarding ∧
    (listenSpanEnd s).rsc.paused = s.rsc.paused ∧
    (listenSpanEnd s).rsc.span = s.rsc.span ∧
    (listenSpanEnd s).lpt.mask = s.lpt.mask ∧
    (listenSpanEnd s).lpt.answer = s.lpt.answer ∧
    (listenSpanEnd s).lpt.holdRequest = s.lpt.holdRequest ∧
    (listenSpanEnd s).lpt.configDigest = s.lpt.configDigest ∧
    (listenSpanEnd s).fca.sightingCount = s.fca.sightingCount := by
  unfold listenSpanEnd
  ((try dsimp only) <;> (repeat' split) <;> (try rfl) <;> simp)

end Sys2Proof.Machine
end

