-- ==== Sys2Proof/Laws/Channels.lean ====
section
/-! SUPPORT. Frames of the operations of Machine/Channels.lean: what each leaves as it was. -/

namespace Sys2Proof.Machine

@[simp] theorem setChannel_frame (i : Nat) (ch : Channel) (s : State) :
    (setChannel i ch s).lkc = s.lkc ∧
    (setChannel i ch s).rsc = s.rsc ∧
    (setChannel i ch s).record = s.record ∧
    (setChannel i ch s).agu = s.agu ∧
    (setChannel i ch s).tbs = s.tbs ∧
    (setChannel i ch s).dre = s.dre ∧
    (setChannel i ch s).conditions = s.conditions ∧
    (setChannel i ch s).settings = s.settings ∧
    (setChannel i ch s).lpt = s.lpt ∧
    (setChannel i ch s).stl = s.stl ∧
    (setChannel i ch s).microseconds = s.microseconds ∧
    (setChannel i ch s).freeCount = s.freeCount ∧
    (setChannel i ch s).pending = s.pending ∧
    (setChannel i ch s).fca.sightingCount = s.fca.sightingCount := by
  unfold setChannel
  ((try dsimp only) <;> (repeat' split) <;> (try rfl) <;> simp)

@[simp] theorem setReady_frame (i : Nat) (ch : Channel) (s : State) :
    (setReady i ch s).lkc = s.lkc ∧
    (setReady i ch s).rsc = s.rsc ∧
    (setReady i ch s).record = s.record ∧
    (setReady i ch s).agu = s.agu ∧
    (setReady i ch s).tbs = s.tbs ∧
    (setReady i ch s).dre = s.dre ∧
    (setReady i ch s).conditions = s.conditions ∧
    (setReady i ch s).settings = s.settings ∧
    (setReady i ch s).stl = s.stl ∧
    (setReady i ch s).microseconds = s.microseconds ∧
    (setReady i ch s).freeCount = s.freeCount ∧
    (setReady i ch s).pending = s.pending ∧
    (setReady i ch s).lpt.mask = s.lpt.mask ∧
    (setReady i ch s).lpt.answer = s.lpt.answer ∧
    (setReady i ch s).lpt.holdRequest = s.lpt.holdRequest ∧
    (setReady i ch s).lpt.access = s.lpt.access ∧
    (setReady i ch s).lpt.configDigest = s.lpt.configDigest ∧
    (setReady i ch s).fca.sightingCount = s.fca.sightingCount := by
  unfold setReady
  ((try dsimp only) <;> (repeat' split) <;> (try rfl) <;> simp)

@[simp] theorem beltTake_frame (n : Nat) (s : State) :
    (beltTake n s).rsc = s.rsc ∧
    (beltTake n s).record = s.record ∧
    (beltTake n s).agu = s.agu ∧
    (beltTake n s).tbs = s.tbs ∧
    (beltTake n s).fca = s.fca ∧
    (beltTake n s).conditions = s.conditions ∧
    (beltTake n s).settings = s.settings ∧
    (beltTake n s).stl = s.stl ∧
    (beltTake n s).microseconds = s.microseconds ∧
    (beltTake n s).freeCount = s.freeCount ∧
    (beltTake n s).pending = s.pending ∧
    (beltTake n s).lkc.sending = s.lkc.sending ∧
    (beltTake n s).lkc.discarding = s.lkc.discarding ∧
    (beltTake n s).lpt.mask = s.lpt.mask ∧
    (beltTake n s).lpt.answer = s.lpt.answer ∧
    (beltTake n s).lpt.holdRequest = s.lpt.holdRequest ∧
    (beltTake n s).lpt.access = s.lpt.access ∧
    (beltTake n s).lpt.configDigest = s.lpt.configDigest := by
  unfold beltTake
  ((try dsimp only) <;> (repeat' split) <;> (try rfl) <;> simp)

@[simp] theorem takeBelt_frame (i : Nat) (s : State) :
    (takeBelt i s).rsc = s.rsc ∧
    (takeBelt i s).record = s.record ∧
    (takeBelt i s).agu = s.agu ∧
    (takeBelt i s).tbs = s.tbs ∧
    (takeBelt i s).conditions = s.conditions ∧
    (takeBelt i s).settings = s.settings ∧
    (takeBelt i s).stl = s.stl ∧
    (takeBelt i s).microseconds = s.microseconds ∧
    (takeBelt i s).freeCount = s.freeCount ∧
    (takeBelt i s).pending = s.pending ∧
    (takeBelt i s).lkc.sending = s.lkc.sending ∧
    (takeBelt i s).lkc.discarding = s.lkc.discarding ∧
    (takeBelt i s).lpt.mask = s.lpt.mask ∧
    (takeBelt i s).lpt.answer = s.lpt.answer ∧
    (takeBelt i s).lpt.holdRequest = s.lpt.holdRequest ∧
    (takeBelt i s).lpt.access = s.lpt.access ∧
    (takeBelt i s).lpt.configDigest = s.lpt.configDigest ∧
    (takeBelt i s).fca.sightingCount = s.fca.sightingCount := by
  unfold takeBelt
  ((try dsimp only) <;> (repeat' split) <;> (try rfl) <;> simp)

@[simp] theorem takeFlow_frame (i : Nat) (s : State) :
    (takeFlow i s).lkc = s.lkc ∧
    (takeFlow i s).rsc = s.rsc ∧
    (takeFlow i s).record = s.record ∧
    (takeFlow i s).agu = s.agu ∧
    (takeFlow i s).tbs = s.tbs ∧
    (takeFlow i s).conditions = s.conditions ∧
    (takeFlow i s).settings = s.settings ∧
    (takeFlow i s).lpt = s.lpt ∧
    (takeFlow i s).stl = s.stl ∧
    (takeFlow i s).microseconds = s.microseconds ∧
    (takeFlow i s).freeCount = s.freeCount ∧
    (takeFlow i s).pending = s.pending ∧
    (takeFlow i s).dre.state = s.dre.state ∧
    (takeFlow i s).dre.gate = s.dre.gate ∧
    (takeFlow i s).fca.sightingCount = s.fca.sightingCount := by
  unfold takeFlow
  ((try dsimp only) <;> (repeat' split) <;> (try rfl) <;> simp)

@[simp] theorem autoSight_frame (average : Nat) (s : State) :
    (autoSight average s).rsc = s.rsc ∧
    (autoSight average s).record = s.record ∧
    (autoSight average s).agu = s.agu ∧
    (autoSight average s).tbs = s.tbs ∧
    (autoSight average s).dre = s.dre ∧
    (autoSight average s).conditions = s.conditions ∧
    (autoSight average s).settings = s.settings ∧
    (autoSight average s).lpt = s.lpt ∧
    (autoSight average s).stl = s.stl ∧
    (autoSight average s).microseconds = s.microseconds ∧
    (autoSight average s).freeCount = s.freeCount ∧
    (autoSight average s).pending = s.pending ∧
    (autoSight average s).lkc.sending = s.lkc.sending ∧
    (autoSight average s).lkc.discarding = s.lkc.discarding ∧
    (autoSight average s).fca.channels = s.fca.channels ∧
    (autoSight average s).fca.sightingCount = s.fca.sightingCount := by
  unfold autoSight
  ((try dsimp only) <;> (repeat' split) <;> (try rfl) <;> simp)

@[simp] theorem sampleLine_frame (i : Nat) (high : Bool) (run : Nat) (s : State) :
    (sampleLine i high run s).lkc = s.lkc ∧
    (sampleLine i high run s).rsc = s.rsc ∧
    (sampleLine i high run s).record = s.record ∧
    (sampleLine i high run s).agu = s.agu ∧
    (sampleLine i high run s).tbs = s.tbs ∧
    (sampleLine i high run s).dre = s.dre ∧
    (sampleLine i high run s).conditions = s.conditions ∧
    (sampleLine i high run s).settings = s.settings ∧
    (sampleLine i high run s).stl = s.stl ∧
    (sampleLine i high run s).microseconds = s.microseconds ∧
    (sampleLine i high run s).freeCount = s.freeCount ∧
    (sampleLine i high run s).pending = s.pending ∧
    (sampleLine i high run s).lpt.mask = s.lpt.mask ∧
    (sampleLine i high run s).lpt.answer = s.lpt.answer ∧
    (sampleLine i high run s).lpt.holdRequest = s.lpt.holdRequest ∧
    (sampleLine i high run s).lpt.access = s.lpt.access ∧
    (sampleLine i high run s).lpt.configDigest = s.lpt.configDigest ∧
    (sampleLine i high run s).fca.sightingCount = s.fca.sightingCount := by
  unfold sampleLine
  ((try dsimp only) <;> (repeat' split) <;> (try rfl) <;> simp)

@[simp] theorem debounce_frame (i : Nat) (high : Bool) (ticks : Nat) (s : State) :
    (debounce i high ticks s).lkc = s.lkc ∧
    (debounce i high ticks s).rsc = s.rsc ∧
    (debounce i high ticks s).record = s.record ∧
    (debounce i high ticks s).agu = s.agu ∧
    (debounce i high ticks s).tbs = s.tbs ∧
    (debounce i high ticks s).dre = s.dre ∧
    (debounce i high ticks s).conditions = s.conditions ∧
    (debounce i high ticks s).settings = s.settings ∧
    (debounce i high ticks s).stl = s.stl ∧
    (debounce i high ticks s).microseconds = s.microseconds ∧
    (debounce i high ticks s).freeCount = s.freeCount ∧
    (debounce i high ticks s).pending = s.pending ∧
    (debounce i high ticks s).lpt.mask = s.lpt.mask ∧
    (debounce i high ticks s).lpt.answer = s.lpt.answer ∧
    (debounce i high ticks s).lpt.holdRequest = s.lpt.holdRequest ∧
    (debounce i high ticks s).lpt.access = s.lpt.access ∧
    (debounce i high ticks s).lpt.configDigest = s.lpt.configDigest ∧
    (debounce i high ticks s).fca.sightingCount = s.fca.sightingCount := by
  unfold debounce
  ((try dsimp only) <;> (repeat' split) <;> (try rfl) <;> simp)

@[simp] theorem countEdge_frame (i : Nat) (rising ticked : Bool) (s : State) :
    (countEdge i rising ticked s).rsc = s.rsc ∧
    (countEdge i rising ticked s).record = s.record ∧
    (countEdge i rising ticked s).agu = s.agu ∧
    (countEdge i rising ticked s).tbs = s.tbs ∧
    (countEdge i rising ticked s).conditions = s.conditions ∧
    (countEdge i rising ticked s).settings = s.settings ∧
    (countEdge i rising ticked s).stl = s.stl ∧
    (countEdge i rising ticked s).microseconds = s.microseconds ∧
    (countEdge i rising ticked s).freeCount = s.freeCount ∧
    (countEdge i rising ticked s).pending = s.pending ∧
    (countEdge i rising ticked s).lkc.sending = s.lkc.sending ∧
    (countEdge i rising ticked s).lkc.discarding = s.lkc.discarding ∧
    (countEdge i rising ticked s).lpt.mask = s.lpt.mask ∧
    (countEdge i rising ticked s).lpt.answer = s.lpt.answer ∧
    (countEdge i rising ticked s).lpt.holdRequest = s.lpt.holdRequest ∧
    (countEdge i rising ticked s).lpt.access = s.lpt.access ∧
    (countEdge i rising ticked s).lpt.configDigest = s.lpt.configDigest ∧
    (countEdge i rising ticked s).fca.sightingCount = s.fca.sightingCount := by
  unfold countEdge
  ((try dsimp only) <;> (repeat' split) <;> (try rfl) <;> simp)

@[simp] theorem captureEdge_frame (i : Nat) (rising ticked : Bool) (s : State) :
    (captureEdge i rising ticked s).lkc = s.lkc ∧
    (captureEdge i rising ticked s).rsc = s.rsc ∧
    (captureEdge i rising ticked s).record = s.record ∧
    (captureEdge i rising ticked s).agu = s.agu ∧
    (captureEdge i rising ticked s).tbs = s.tbs ∧
    (captureEdge i rising ticked s).conditions = s.conditions ∧
    (captureEdge i rising ticked s).settings = s.settings ∧
    (captureEdge i rising ticked s).stl = s.stl ∧
    (captureEdge i rising ticked s).microseconds = s.microseconds ∧
    (captureEdge i rising ticked s).freeCount = s.freeCount ∧
    (captureEdge i rising ticked s).pending = s.pending ∧
    (captureEdge i rising ticked s).dre.state = s.dre.state ∧
    (captureEdge i rising ticked s).dre.gate = s.dre.gate ∧
    (captureEdge i rising ticked s).lpt.mask = s.lpt.mask ∧
    (captureEdge i rising ticked s).lpt.answer = s.lpt.answer ∧
    (captureEdge i rising ticked s).lpt.holdRequest = s.lpt.holdRequest ∧
    (captureEdge i rising ticked s).lpt.access = s.lpt.access ∧
    (captureEdge i rising ticked s).lpt.configDigest = s.lpt.configDigest ∧
    (captureEdge i rising ticked s).fca.sightingCount = s.fca.sightingCount := by
  unfold captureEdge
  ((try dsimp only) <;> (repeat' split) <;> (try rfl) <;> simp)

@[simp] theorem widthPulse_frame (i width : Nat) (whole : Bool) (s : State) :
    (widthPulse i width whole s).rsc = s.rsc ∧
    (widthPulse i width whole s).record = s.record ∧
    (widthPulse i width whole s).agu = s.agu ∧
    (widthPulse i width whole s).tbs = s.tbs ∧
    (widthPulse i width whole s).dre = s.dre ∧
    (widthPulse i width whole s).conditions = s.conditions ∧
    (widthPulse i width whole s).settings = s.settings ∧
    (widthPulse i width whole s).stl = s.stl ∧
    (widthPulse i width whole s).microseconds = s.microseconds ∧
    (widthPulse i width whole s).freeCount = s.freeCount ∧
    (widthPulse i width whole s).pending = s.pending ∧
    (widthPulse i width whole s).lkc.sending = s.lkc.sending ∧
    (widthPulse i width whole s).lkc.discarding = s.lkc.discarding ∧
    (widthPulse i width whole s).lpt.mask = s.lpt.mask ∧
    (widthPulse i width whole s).lpt.answer = s.lpt.answer ∧
    (widthPulse i width whole s).lpt.holdRequest = s.lpt.holdRequest ∧
    (widthPulse i width whole s).lpt.access = s.lpt.access ∧
    (widthPulse i width whole s).lpt.configDigest = s.lpt.configDigest ∧
    (widthPulse i width whole s).fca.sightingCount = s.fca.sightingCount := by
  unfold widthPulse
  ((try dsimp only) <;> (repeat' split) <;> (try rfl) <;> simp)

@[simp] theorem setFault_frame (i : Nat) (b : Bool) (ch : Channel) (s : State) :
    (setFault i b ch s).lkc = s.lkc ∧
    (setFault i b ch s).rsc = s.rsc ∧
    (setFault i b ch s).record = s.record ∧
    (setFault i b ch s).agu = s.agu ∧
    (setFault i b ch s).tbs = s.tbs ∧
    (setFault i b ch s).dre = s.dre ∧
    (setFault i b ch s).conditions = s.conditions ∧
    (setFault i b ch s).settings = s.settings ∧
    (setFault i b ch s).stl = s.stl ∧
    (setFault i b ch s).microseconds = s.microseconds ∧
    (setFault i b ch s).freeCount = s.freeCount ∧
    (setFault i b ch s).pending = s.pending ∧
    (setFault i b ch s).lpt.mask = s.lpt.mask ∧
    (setFault i b ch s).lpt.answer = s.lpt.answer ∧
    (setFault i b ch s).lpt.holdRequest = s.lpt.holdRequest ∧
    (setFault i b ch s).lpt.access = s.lpt.access ∧
    (setFault i b ch s).lpt.configDigest = s.lpt.configDigest ∧
    (setFault i b ch s).fca.sightingCount = s.fca.sightingCount := by
  unfold setFault
  ((try dsimp only) <;> (repeat' split) <;> (try rfl) <;> simp)

@[simp] theorem disagreeing_frame (i ticks : Nat) (s : State) :
    (disagreeing i ticks s).record = s.record ∧
    (disagreeing i ticks s).agu = s.agu ∧
    (disagreeing i ticks s).settings = s.settings ∧
    (disagreeing i ticks s).stl = s.stl ∧
    (disagreeing i ticks s).microseconds = s.microseconds ∧
    (disagreeing i ticks s).freeCount = s.freeCount ∧
    (disagreeing i ticks s).pending = s.pending ∧
    (disagreeing i ticks s).lkc.discarding = s.lkc.discarding ∧
    (disagreeing i ticks s).rsc.roundTime = s.rsc.roundTime ∧
    (disagreeing i ticks s).rsc.paused = s.rsc.paused ∧
    (disagreeing i ticks s).rsc.span = s.rsc.span ∧
    (disagreeing i ticks s).lpt.mask = s.lpt.mask ∧
    (disagreeing i ticks s).lpt.answer = s.lpt.answer ∧
    (disagreeing i ticks s).lpt.holdRequest = s.lpt.holdRequest ∧
    (disagreeing i ticks s).lpt.configDigest = s.lpt.configDigest ∧
    (disagreeing i ticks s).fca.sightingCount = s.fca.sightingCount := by
  unfold disagreeing
  ((try dsimp only) <;> (repeat' split) <;> (try rfl) <;> simp)

@[simp] theorem agreeing_frame (i : Nat) (s : State) :
    (agreeing i s).lkc = s.lkc ∧
    (agreeing i s).rsc = s.rsc ∧
    (agreeing i s).record = s.record ∧
    (agreeing i s).agu = s.agu ∧
    (agreeing i s).tbs = s.tbs ∧
    (agreeing i s).dre = s.dre ∧
    (agreeing i s).conditions = s.conditions ∧
    (agreeing i s).settings = s.settings ∧
    (agreeing i s).stl = s.stl ∧
    (agreeing i s).microseconds = s.microseconds ∧
    (agreeing i s).freeCount = s.freeCount ∧
    (agreeing i s).pending = s.pending ∧
    (agreeing i s).lpt.mask = s.lpt.mask ∧
    (agreeing i s).lpt.answer = s.lpt.answer ∧
    (agreeing i s).lpt.holdRequest = s.lpt.holdRequest ∧
    (agreeing i s).lpt.access = s.lpt.access ∧
    (agreeing i s).lpt.configDigest = s.lpt.configDigest ∧
    (agreeing i s).fca.sightingCount = s.fca.sightingCount := by
  unfold agreeing
  ((try dsimp only) <;> (repeat' split) <;> (try rfl) <;> simp)

@[simp] theorem readbackFault_frame (i ticks : Nat) (s : State) :
    (readbackFault i ticks s).record = s.record ∧
    (readbackFault i ticks s).agu = s.agu ∧
    (readbackFault i ticks s).settings = s.settings ∧
    (readbackFault i ticks s).stl = s.stl ∧
    (readbackFault i ticks s).microseconds = s.microseconds ∧
    (readbackFault i ticks s).freeCount = s.freeCount ∧
    (readbackFault i ticks s).pending = s.pending ∧
    (readbackFault i ticks s).lkc.discarding = s.lkc.discarding ∧
    (readbackFault i ticks s).rsc.roundTime = s.rsc.roundTime ∧
    (readbackFault i ticks s).rsc.paused = s.rsc.paused ∧
    (readbackFault i ticks s).rsc.span = s.rsc.span ∧
    (readbackFault i ticks s).lpt.mask = s.lpt.mask ∧
    (readbackFault i ticks s).lpt.answer = s.lpt.answer ∧
    (readbackFault i ticks s).lpt.holdRequest = s.lpt.holdRequest ∧
    (readbackFault i ticks s).lpt.configDigest = s.lpt.configDigest ∧
    (readbackFault i ticks s).fca.sightingCount = s.fca.sightingCount := by
  unfold readbackFault
  ((try dsimp only) <;> (repeat' split) <;> (try rfl) <;> simp)

@[simp] theorem readbackAgree_frame (i : Nat) (s : State) :
    (readbackAgree i s).lkc = s.lkc ∧
    (readbackAgree i s).rsc = s.rsc ∧
    (readbackAgree i s).record = s.record ∧
    (readbackAgree i s).agu = s.agu ∧
    (readbackAgree i s).tbs = s.tbs ∧
    (readbackAgree i s).dre = s.dre ∧
    (readbackAgree i s).conditions = s.conditions ∧
    (readbackAgree i s).settings = s.settings ∧
    (readbackAgree i s).stl = s.stl ∧
    (readbackAgree i s).microseconds = s.microseconds ∧
    (readbackAgree i s).freeCount = s.freeCount ∧
    (readbackAgree i s).pending = s.pending ∧
    (readbackAgree i s).lpt.mask = s.lpt.mask ∧
    (readbackAgree i s).lpt.answer = s.lpt.answer ∧
    (readbackAgree i s).lpt.holdRequest = s.lpt.holdRequest ∧
    (readbackAgree i s).lpt.access = s.lpt.access ∧
    (readbackAgree i s).lpt.configDigest = s.lpt.configDigest ∧
    (readbackAgree i s).fca.sightingCount = s.fca.sightingCount := by
  unfold readbackAgree
  ((try dsimp only) <;> (repeat' split) <;> (try rfl) <;> simp)

@[simp] theorem stickGate_frame (s : State) :
    (stickGate s).record = s.record ∧
    (stickGate s).agu = s.agu ∧
    (stickGate s).settings = s.settings ∧
    (stickGate s).stl = s.stl ∧
    (stickGate s).microseconds = s.microseconds ∧
    (stickGate s).freeCount = s.freeCount ∧
    (stickGate s).pending = s.pending ∧
    (stickGate s).lkc.discarding = s.lkc.discarding ∧
    (stickGate s).rsc.roundTime = s.rsc.roundTime ∧
    (stickGate s).rsc.paused = s.rsc.paused ∧
    (stickGate s).rsc.span = s.rsc.span ∧
    (stickGate s).lpt.mask = s.lpt.mask ∧
    (stickGate s).lpt.answer = s.lpt.answer ∧
    (stickGate s).lpt.holdRequest = s.lpt.holdRequest ∧
    (stickGate s).lpt.configDigest = s.lpt.configDigest ∧
    (stickGate s).fca.sightingCount = s.fca.sightingCount := by
  unfold stickGate
  ((try dsimp only) <;> (repeat' split) <;> (try rfl) <;> simp)

@[simp] theorem gateStuck_frame (s : State) :
    (gateStuck s).record = s.record ∧
    (gateStuck s).agu = s.agu ∧
    (gateStuck s).settings = s.settings ∧
    (gateStuck s).stl = s.stl ∧
    (gateStuck s).microseconds = s.microseconds ∧
    (gateStuck s).freeCount = s.freeCount ∧
    (gateStuck s).pending = s.pending ∧
    (gateStuck s).lkc.discarding = s.lkc.discarding ∧
    (gateStuck s).rsc.roundTime = s.rsc.roundTime ∧
    (gateStuck s).rsc.paused = s.rsc.paused ∧
    (gateStuck s).rsc.span = s.rsc.span ∧
    (gateStuck s).lpt.mask = s.lpt.mask ∧
    (gateStuck s).lpt.answer = s.lpt.answer ∧
    (gateStuck s).lpt.holdRequest = s.lpt.holdRequest ∧
    (gateStuck s).lpt.configDigest = s.lpt.configDigest ∧
    (gateStuck s).fca.sightingCount = s.fca.sightingCount := by
  unfold gateStuck
  ((try dsimp only) <;> (repeat' split) <;> (try rfl) <;> simp)

@[simp] theorem strapTick_frame (s : State) :
    (strapTick s).lkc = s.lkc ∧
    (strapTick s).rsc = s.rsc ∧
    (strapTick s).record = s.record ∧
    (strapTick s).agu = s.agu ∧
    (strapTick s).tbs = s.tbs ∧
    (strapTick s).dre = s.dre ∧
    (strapTick s).fca = s.fca ∧
    (strapTick s).conditions = s.conditions ∧
    (strapTick s).settings = s.settings ∧
    (strapTick s).lpt = s.lpt ∧
    (strapTick s).microseconds = s.microseconds ∧
    (strapTick s).freeCount = s.freeCount ∧
    (strapTick s).pending = s.pending := by
  unfold strapTick
  ((try dsimp only) <;> (repeat' split) <;> (try rfl) <;> simp)

@[simp] theorem strokeTick_frame (s : State) :
    (strokeTick s).record = s.record ∧
    (strokeTick s).agu = s.agu ∧
    (strokeTick s).settings = s.settings ∧
    (strokeTick s).stl = s.stl ∧
    (strokeTick s).microseconds = s.microseconds ∧
    (strokeTick s).freeCount = s.freeCount ∧
    (strokeTick s).pending = s.pending ∧
    (strokeTick s).lkc.discarding = s.lkc.discarding ∧
    (strokeTick s).rsc.roundTime = s.rsc.roundTime ∧
    (strokeTick s).rsc.paused = s.rsc.paused ∧
    (strokeTick s).rsc.span = s.rsc.span ∧
    (strokeTick s).lpt.mask = s.lpt.mask ∧
    (strokeTick s).lpt.answer = s.lpt.answer ∧
    (strokeTick s).lpt.holdRequest = s.lpt.holdRequest ∧
    (strokeTick s).lpt.configDigest = s.lpt.configDigest ∧
    (strokeTick s).fca.sightingCount = s.fca.sightingCount := by
  unfold strokeTick
  ((try dsimp only) <;> (repeat' split) <;> (try rfl) <;> simp)

@[simp] theorem channelTick_frame (i : Nat) (s : State) :
    (channelTick i s).record = s.record ∧
    (channelTick i s).agu = s.agu ∧
    (channelTick i s).settings = s.settings ∧
    (channelTick i s).stl = s.stl ∧
    (channelTick i s).microseconds = s.microseconds ∧
    (channelTick i s).freeCount = s.freeCount ∧
    (channelTick i s).pending = s.pending ∧
    (channelTick i s).lkc.discarding = s.lkc.discarding ∧
    (channelTick i s).rsc.roundTime = s.rsc.roundTime ∧
    (channelTick i s).rsc.paused = s.rsc.paused ∧
    (channelTick i s).rsc.span = s.rsc.span ∧
    (channelTick i s).lpt.mask = s.lpt.mask ∧
    (channelTick i s).lpt.answer = s.lpt.answer ∧
    (channelTick i s).lpt.holdRequest = s.lpt.holdRequest ∧
    (channelTick i s).lpt.configDigest = s.lpt.configDigest ∧
    (channelTick i s).fca.sightingCount = s.fca.sightingCount := by
  unfold channelTick
  ((try dsimp only) <;> (repeat' split) <;> (try rfl) <;> simp)

@[simp] theorem channelTicks_frame (s : State) :
    (channelTicks s).record = s.record ∧
    (channelTicks s).agu = s.agu ∧
    (channelTicks s).settings = s.settings ∧
    (channelTicks s).stl = s.stl ∧
    (channelTicks s).microseconds = s.microseconds ∧
    (channelTicks s).freeCount = s.freeCount ∧
    (channelTicks s).pending = s.pending ∧
    (channelTicks s).lkc.discarding = s.lkc.discarding ∧
    (channelTicks s).rsc.roundTime = s.rsc.roundTime ∧
    (channelTicks s).rsc.paused = s.rsc.paused ∧
    (channelTicks s).rsc.span = s.rsc.span ∧
    (channelTicks s).lpt.mask = s.lpt.mask ∧
    (channelTicks s).lpt.answer = s.lpt.answer ∧
    (channelTicks s).lpt.holdRequest = s.lpt.holdRequest ∧
    (channelTicks s).lpt.configDigest = s.lpt.configDigest ∧
    (channelTicks s).fca.sightingCount = s.fca.sightingCount := by
  refine ⟨?_, ?_, ?_, ?_, ?_, ?_, ?_, ?_, ?_, ?_, ?_, ?_, ?_, ?_, ?_, ?_⟩
  · unfold channelTicks; refine foldl_keeps (fun s => s.record) _ ?_ _ _; intro s x; ((try dsimp only) <;> (repeat' split) <;> (try rfl) <;> simp)
  · unfold channelTicks; refine foldl_keeps (fun s => s.agu) _ ?_ _ _; intro s x; ((try dsimp only) <;> (repeat' split) <;> (try rfl) <;> simp)
  · unfold channelTicks; refine foldl_keeps (fun s => s.settings) _ ?_ _ _; intro s x; ((try dsimp only) <;> (repeat' split) <;> (try rfl) <;> simp)
  · unfold channelTicks; refine foldl_keeps (fun s => s.stl) _ ?_ _ _; intro s x; ((try dsimp only) <;> (repeat' split) <;> (try rfl) <;> simp)
  · unfold channelTicks; refine foldl_keeps (fun s => s.microseconds) _ ?_ _ _; intro s x; ((try dsimp only) <;> (repeat' split) <;> (try rfl) <;> simp)
  · unfold channelTicks; refine foldl_keeps (fun s => s.freeCount) _ ?_ _ _; intro s x; ((try dsimp only) <;> (repeat' split) <;> (try rfl) <;> simp)
  · unfold channelTicks; refine foldl_keeps (fun s => s.pending) _ ?_ _ _; intro s x; ((try dsimp only) <;> (repeat' split) <;> (try rfl) <;> simp)
  · unfold channelTicks; refine foldl_keeps (fun s => s.lkc.discarding) _ ?_ _ _; intro s x; ((try dsimp only) <;> (repeat' split) <;> (try rfl) <;> simp)
  · unfold channelTicks; refine foldl_keeps (fun s => s.rsc.roundTime) _ ?_ _ _; intro s x; ((try dsimp only) <;> (repeat' split) <;> (try rfl) <;> simp)
  · unfold channelTicks; refine foldl_keeps (fun s => s.rsc.paused) _ ?_ _ _; intro s x; ((try dsimp only) <;> (repeat' split) <;> (try rfl) <;> simp)
  · unfold channelTicks; refine foldl_keeps (fun s => s.rsc.span) _ ?_ _ _; intro s x; ((try dsimp only) <;> (repeat' split) <;> (try rfl) <;> simp)
  · unfold channelTicks; refine foldl_keeps (fun s => s.lpt.mask) _ ?_ _ _; intro s x; ((try dsimp only) <;> (repeat' split) <;> (try rfl) <;> simp)
  · unfold channelTicks; refine foldl_keeps (fun s => s.lpt.answer) _ ?_ _ _; intro s x; ((try dsimp only) <;> (repeat' split) <;> (try rfl) <;> simp)
  · unfold channelTicks; refine foldl_keeps (fun s => s.lpt.holdRequest) _ ?_ _ _; intro s x; ((try dsimp only) <;> (repeat' split) <;> (try rfl) <;> simp)
  · unfold channelTicks; refine foldl_keeps (fun s => s.lpt.configDigest) _ ?_ _ _; intro s x; ((try dsimp only) <;> (repeat' split) <;> (try rfl) <;> simp)
  · unfold channelTicks; refine foldl_keeps (fun s => s.fca.sightingCount) _ ?_ _ _; intro s x; ((try dsimp only) <;> (repeat' split) <;> (try rfl) <;> simp)

/-- Whether a channel conditions its pin: where a tick has come by the event, or came before it. -/
theorem Channel.conditions_iff (ch : Channel) (ticked : Bool) :
    ch.conditions ticked = true ↔ ticked = true ∨ ch.fresh = false := by
  unfold Channel.conditions
  cases ticked <;> cases ch.fresh <;> decide

/-- A channel that conditions its pin already is its own `ticked`. -/
theorem Channel.ticked_of_not_fresh (ch : Channel) (h : ch.fresh = false) : ch.ticked = ch := by
  cases ch; cases h; rfl

end Sys2Proof.Machine
end

