-- ==== Sys2Proof/Laws/Port.lean ====
section
/-! SUPPORT. Frames of the operations of Machine/Port.lean: what each leaves as it was. -/

namespace Sys2Proof.Machine

@[simp] theorem answerWith_frame (a : Answer) (data : List Byte) (s : State) :
    (answerWith a data s).lkc = s.lkc ∧
    (answerWith a data s).rsc = s.rsc ∧
    (answerWith a data s).record = s.record ∧
    (answerWith a data s).agu = s.agu ∧
    (answerWith a data s).tbs = s.tbs ∧
    (answerWith a data s).dre = s.dre ∧
    (answerWith a data s).fca = s.fca ∧
    (answerWith a data s).conditions = s.conditions ∧
    (answerWith a data s).settings = s.settings ∧
    (answerWith a data s).stl = s.stl ∧
    (answerWith a data s).microseconds = s.microseconds ∧
    (answerWith a data s).freeCount = s.freeCount ∧
    (answerWith a data s).pending = s.pending ∧
    (answerWith a data s).lpt.mask = s.lpt.mask ∧
    (answerWith a data s).lpt.holdRequest = s.lpt.holdRequest ∧
    (answerWith a data s).lpt.access = s.lpt.access ∧
    (answerWith a data s).lpt.configDigest = s.lpt.configDigest := by
  unfold answerWith
  ((try dsimp only) <;> (repeat' split) <;> (try rfl) <;> simp)

@[simp] theorem answer_frame (a : Answer) (s : State) :
    (answer a s).lkc = s.lkc ∧
    (answer a s).rsc = s.rsc ∧
    (answer a s).record = s.record ∧
    (answer a s).agu = s.agu ∧
    (answer a s).tbs = s.tbs ∧
    (answer a s).dre = s.dre ∧
    (answer a s).fca = s.fca ∧
    (answer a s).conditions = s.conditions ∧
    (answer a s).settings = s.settings ∧
    (answer a s).stl = s.stl ∧
    (answer a s).microseconds = s.microseconds ∧
    (answer a s).freeCount = s.freeCount ∧
    (answer a s).pending = s.pending ∧
    (answer a s).lpt.mask = s.lpt.mask ∧
    (answer a s).lpt.holdRequest = s.lpt.holdRequest ∧
    (answer a s).lpt.access = s.lpt.access ∧
    (answer a s).lpt.configDigest = s.lpt.configDigest := by
  unfold answer
  ((try dsimp only) <;> (repeat' split) <;> (try rfl) <;> simp)

@[simp] theorem serviceHost_frame (s : State) :
    (serviceHost s).lkc = s.lkc ∧
    (serviceHost s).rsc = s.rsc ∧
    (serviceHost s).record = s.record ∧
    (serviceHost s).agu = s.agu ∧
    (serviceHost s).tbs = s.tbs ∧
    (serviceHost s).dre = s.dre ∧
    (serviceHost s).fca = s.fca ∧
    (serviceHost s).conditions = s.conditions ∧
    (serviceHost s).settings = s.settings ∧
    (serviceHost s).stl = s.stl ∧
    (serviceHost s).microseconds = s.microseconds ∧
    (serviceHost s).freeCount = s.freeCount ∧
    (serviceHost s).pending = s.pending ∧
    (serviceHost s).lpt.mask = s.lpt.mask ∧
    (serviceHost s).lpt.answer = s.lpt.answer ∧
    (serviceHost s).lpt.holdRequest = s.lpt.holdRequest ∧
    (serviceHost s).lpt.access = s.lpt.access ∧
    (serviceHost s).lpt.configDigest = s.lpt.configDigest := by
  unfold serviceHost
  ((try dsimp only) <;> (repeat' split) <;> (try rfl) <;> simp)

@[simp] theorem writeChannel_frame (i : Nat) (f : Channel → Channel) (s : State) :
    (writeChannel i f s).lkc = s.lkc ∧
    (writeChannel i f s).rsc = s.rsc ∧
    (writeChannel i f s).record = s.record ∧
    (writeChannel i f s).agu = s.agu ∧
    (writeChannel i f s).tbs = s.tbs ∧
    (writeChannel i f s).dre = s.dre ∧
    (writeChannel i f s).conditions = s.conditions ∧
    (writeChannel i f s).settings = s.settings ∧
    (writeChannel i f s).stl = s.stl ∧
    (writeChannel i f s).microseconds = s.microseconds ∧
    (writeChannel i f s).freeCount = s.freeCount ∧
    (writeChannel i f s).pending = s.pending ∧
    (writeChannel i f s).lpt.mask = s.lpt.mask ∧
    (writeChannel i f s).lpt.answer = s.lpt.answer ∧
    (writeChannel i f s).lpt.holdRequest = s.lpt.holdRequest ∧
    (writeChannel i f s).lpt.access = s.lpt.access ∧
    (writeChannel i f s).lpt.configDigest = s.lpt.configDigest ∧
    (writeChannel i f s).fca.sightingCount = s.fca.sightingCount := by
  unfold writeChannel
  ((try dsimp only) <;> (repeat' split) <;> (try rfl) <;> simp)

@[simp] theorem gateFromLimit_frame (s : State) :
    (gateFromLimit s).lkc = s.lkc ∧
    (gateFromLimit s).rsc = s.rsc ∧
    (gateFromLimit s).record = s.record ∧
    (gateFromLimit s).agu = s.agu ∧
    (gateFromLimit s).tbs = s.tbs ∧
    (gateFromLimit s).fca = s.fca ∧
    (gateFromLimit s).conditions = s.conditions ∧
    (gateFromLimit s).settings = s.settings ∧
    (gateFromLimit s).stl = s.stl ∧
    (gateFromLimit s).microseconds = s.microseconds ∧
    (gateFromLimit s).freeCount = s.freeCount ∧
    (gateFromLimit s).pending = s.pending ∧
    (gateFromLimit s).dre.state = s.dre.state ∧
    (gateFromLimit s).lpt.mask = s.lpt.mask ∧
    (gateFromLimit s).lpt.answer = s.lpt.answer ∧
    (gateFromLimit s).lpt.holdRequest = s.lpt.holdRequest ∧
    (gateFromLimit s).lpt.access = s.lpt.access ∧
    (gateFromLimit s).lpt.configDigest = s.lpt.configDigest := by
  unfold gateFromLimit
  ((try dsimp only) <;> (repeat' split) <;> (try rfl) <;> simp)

@[simp] theorem takeAllReadings_frame (s : State) :
    (takeAllReadings s).rsc = s.rsc ∧
    (takeAllReadings s).record = s.record ∧
    (takeAllReadings s).agu = s.agu ∧
    (takeAllReadings s).tbs = s.tbs ∧
    (takeAllReadings s).conditions = s.conditions ∧
    (takeAllReadings s).settings = s.settings ∧
    (takeAllReadings s).stl = s.stl ∧
    (takeAllReadings s).microseconds = s.microseconds ∧
    (takeAllReadings s).freeCount = s.freeCount ∧
    (takeAllReadings s).pending = s.pending := by
  refine ⟨?_, ?_, ?_, ?_, ?_, ?_, ?_, ?_, ?_, ?_⟩
  · exact foldl_keeps (fun s => s.rsc) (fun s i => takeFlow i (takeBelt i s)) (fun s i => by simp) _ s
  · exact foldl_keeps (fun s => s.record) (fun s i => takeFlow i (takeBelt i s)) (fun s i => by simp) _ s
  · exact foldl_keeps (fun s => s.agu) (fun s i => takeFlow i (takeBelt i s)) (fun s i => by simp) _ s
  · exact foldl_keeps (fun s => s.tbs) (fun s i => takeFlow i (takeBelt i s)) (fun s i => by simp) _ s
  · exact foldl_keeps (fun s => s.conditions) (fun s i => takeFlow i (takeBelt i s)) (fun s i => by simp) _ s
  · exact foldl_keeps (fun s => s.settings) (fun s i => takeFlow i (takeBelt i s)) (fun s i => by simp) _ s
  · exact foldl_keeps (fun s => s.stl) (fun s i => takeFlow i (takeBelt i s)) (fun s i => by simp) _ s
  · exact foldl_keeps (fun s => s.microseconds) (fun s i => takeFlow i (takeBelt i s)) (fun s i => by simp) _ s
  · exact foldl_keeps (fun s => s.freeCount) (fun s i => takeFlow i (takeBelt i s)) (fun s i => by simp) _ s
  · exact foldl_keeps (fun s => s.pending) (fun s i => takeFlow i (takeBelt i s)) (fun s i => by simp) _ s

@[simp] theorem faultClear_frame (s : State) :
    (faultClear s).lkc = s.lkc ∧
    (faultClear s).rsc = s.rsc ∧
    (faultClear s).record = s.record ∧
    (faultClear s).agu = s.agu ∧
    (faultClear s).tbs = s.tbs ∧
    (faultClear s).dre = s.dre ∧
    (faultClear s).fca = s.fca ∧
    (faultClear s).settings = s.settings ∧
    (faultClear s).stl = s.stl ∧
    (faultClear s).microseconds = s.microseconds ∧
    (faultClear s).freeCount = s.freeCount ∧
    (faultClear s).pending = s.pending ∧
    (faultClear s).lpt.mask = s.lpt.mask ∧
    (faultClear s).lpt.answer = s.lpt.answer ∧
    (faultClear s).lpt.holdRequest = s.lpt.holdRequest ∧
    (faultClear s).lpt.access = s.lpt.access ∧
    (faultClear s).lpt.configDigest = s.lpt.configDigest := by
  unfold faultClear
  ((try dsimp only) <;> (repeat' split) <;> (try rfl) <;> simp)

end Sys2Proof.Machine
end

