-- ==== Sys2Proof/Laws/Sequencer.lean ====
section
/-! SUPPORT. Frames of the operations of Machine/Sequencer.lean: what each leaves as it was. -/

namespace Sys2Proof.Machine

@[simp] theorem beginSession_frame (p : Purpose) (s : State) :
    (beginSession p s).rsc = s.rsc ∧
    (beginSession p s).record = s.record ∧
    (beginSession p s).agu = s.agu ∧
    (beginSession p s).dre = s.dre ∧
    (beginSession p s).fca = s.fca ∧
    (beginSession p s).conditions = s.conditions ∧
    (beginSession p s).settings = s.settings ∧
    (beginSession p s).lpt = s.lpt ∧
    (beginSession p s).stl = s.stl ∧
    (beginSession p s).microseconds = s.microseconds ∧
    (beginSession p s).freeCount = s.freeCount ∧
    (beginSession p s).pending = s.pending ∧
    (beginSession p s).lkc.sending = s.lkc.sending ∧
    (beginSession p s).lkc.discarding = s.lkc.discarding := by
  unfold beginSession
  ((try dsimp only) <;> (repeat' split) <;> (try rfl) <;> simp)

@[simp] theorem endSession_frame (kind : Closing) (args : EndArgs) (f : EventFrame) (s : State) :
    (endSession kind args f s).rsc = s.rsc ∧
    (endSession kind args f s).record = s.record ∧
    (endSession kind args f s).agu = s.agu ∧
    (endSession kind args f s).dre = s.dre ∧
    (endSession kind args f s).fca = s.fca ∧
    (endSession kind args f s).conditions = s.conditions ∧
    (endSession kind args f s).settings = s.settings ∧
    (endSession kind args f s).lpt = s.lpt ∧
    (endSession kind args f s).stl = s.stl ∧
    (endSession kind args f s).microseconds = s.microseconds ∧
    (endSession kind args f s).freeCount = s.freeCount ∧
    (endSession kind args f s).pending = s.pending ∧
    (endSession kind args f s).lkc.sending = s.lkc.sending ∧
    (endSession kind args f s).lkc.discarding = s.lkc.discarding := by
  unfold endSession
  ((try dsimp only) <;> (repeat' split) <;> (try rfl) <;> simp)

@[simp] theorem abandonSession_frame (s : State) :
    (abandonSession s).rsc = s.rsc ∧
    (abandonSession s).record = s.record ∧
    (abandonSession s).agu = s.agu ∧
    (abandonSession s).dre = s.dre ∧
    (abandonSession s).fca = s.fca ∧
    (abandonSession s).conditions = s.conditions ∧
    (abandonSession s).settings = s.settings ∧
    (abandonSession s).lpt = s.lpt ∧
    (abandonSession s).stl = s.stl ∧
    (abandonSession s).microseconds = s.microseconds ∧
    (abandonSession s).freeCount = s.freeCount ∧
    (abandonSession s).pending = s.pending ∧
    (abandonSession s).lkc.sending = s.lkc.sending ∧
    (abandonSession s).lkc.discarding = s.lkc.discarding := by
  unfold abandonSession
  ((try dsimp only) <;> (repeat' split) <;> (try rfl) <;> simp)

end Sys2Proof.Machine
end

