-- ==== Sys2Proof/Laws/Draw.lean ====
section
/-! SUPPORT. Frames of the operations of Machine/Draw.lean: what each leaves as it was. -/

namespace Sys2Proof.Machine

@[simp] theorem queueOrder_frame (kind amount : Nat) (s : State) :
    (queueOrder kind amount s).rsc = s.rsc ∧
    (queueOrder kind amount s).record = s.record ∧
    (queueOrder kind amount s).agu = s.agu ∧
    (queueOrder kind amount s).tbs = s.tbs ∧
    (queueOrder kind amount s).fca = s.fca ∧
    (queueOrder kind amount s).conditions = s.conditions ∧
    (queueOrder kind amount s).settings = s.settings ∧
    (queueOrder kind amount s).lpt = s.lpt ∧
    (queueOrder kind amount s).stl = s.stl ∧
    (queueOrder kind amount s).microseconds = s.microseconds ∧
    (queueOrder kind amount s).freeCount = s.freeCount ∧
    (queueOrder kind amount s).pending = s.pending ∧
    (queueOrder kind amount s).lkc.sending = s.lkc.sending ∧
    (queueOrder kind amount s).lkc.discarding = s.lkc.discarding ∧
    (queueOrder kind amount s).dre.gate = s.dre.gate := by
  unfold queueOrder
  ((try dsimp only) <;> (repeat' split) <;> (try rfl) <;> simp)

@[simp] theorem stopOrders_frame (s : State) :
    (stopOrders s).lkc = s.lkc ∧
    (stopOrders s).rsc = s.rsc ∧
    (stopOrders s).record = s.record ∧
    (stopOrders s).agu = s.agu ∧
    (stopOrders s).tbs = s.tbs ∧
    (stopOrders s).fca = s.fca ∧
    (stopOrders s).conditions = s.conditions ∧
    (stopOrders s).settings = s.settings ∧
    (stopOrders s).stl = s.stl ∧
    (stopOrders s).microseconds = s.microseconds ∧
    (stopOrders s).freeCount = s.freeCount ∧
    (stopOrders s).pending = s.pending ∧
    (stopOrders s).dre.state = s.dre.state ∧
    (stopOrders s).dre.gate = s.dre.gate ∧
    (stopOrders s).lpt.mask = s.lpt.mask ∧
    (stopOrders s).lpt.answer = s.lpt.answer ∧
    (stopOrders s).lpt.holdRequest = s.lpt.holdRequest ∧
    (stopOrders s).lpt.access = s.lpt.access ∧
    (stopOrders s).lpt.configDigest = s.lpt.configDigest := by
  unfold stopOrders
  ((try dsimp only) <;> (repeat' split) <;> (try rfl) <;> simp)

@[simp] theorem stopEngine_frame (s : State) :
    (stopEngine s).rsc = s.rsc ∧
    (stopEngine s).record = s.record ∧
    (stopEngine s).agu = s.agu ∧
    (stopEngine s).tbs = s.tbs ∧
    (stopEngine s).fca = s.fca ∧
    (stopEngine s).conditions = s.conditions ∧
    (stopEngine s).settings = s.settings ∧
    (stopEngine s).stl = s.stl ∧
    (stopEngine s).microseconds = s.microseconds ∧
    (stopEngine s).freeCount = s.freeCount ∧
    (stopEngine s).pending = s.pending ∧
    (stopEngine s).lkc.sending = s.lkc.sending ∧
    (stopEngine s).lkc.discarding = s.lkc.discarding ∧
    (stopEngine s).lpt.mask = s.lpt.mask ∧
    (stopEngine s).lpt.answer = s.lpt.answer ∧
    (stopEngine s).lpt.holdRequest = s.lpt.holdRequest ∧
    (stopEngine s).lpt.access = s.lpt.access ∧
    (stopEngine s).lpt.configDigest = s.lpt.configDigest := by
  unfold stopEngine
  ((try dsimp only) <;> (repeat' split) <;> (try rfl) <;> simp)

end Sys2Proof.Machine
end

