-- ==== Sys2Proof/Laws/Reads.lean ====
section
/-! SUPPORT. Frames of the operations of Machine/Reads.lean: what each leaves as it was. -/

namespace Sys2Proof.Machine

@[simp] theorem countFree_frame (s : State) :
    (countFree s).lkc = s.lkc ∧
    (countFree s).rsc = s.rsc ∧
    (countFree s).record = s.record ∧
    (countFree s).agu = s.agu ∧
    (countFree s).tbs = s.tbs ∧
    (countFree s).dre = s.dre ∧
    (countFree s).fca = s.fca ∧
    (countFree s).conditions = s.conditions ∧
    (countFree s).settings = s.settings ∧
    (countFree s).lpt = s.lpt ∧
    (countFree s).stl = s.stl ∧
    (countFree s).microseconds = s.microseconds ∧
    (countFree s).pending = s.pending := by
  unfold countFree
  ((try dsimp only) <;> (repeat' split) <;> (try rfl) <;> simp)

@[simp] theorem takeChannel_frame (i : Nat) (s : State) :
    (takeChannel i s).lkc = s.lkc ∧
    (takeChannel i s).rsc = s.rsc ∧
    (takeChannel i s).record = s.record ∧
    (takeChannel i s).agu = s.agu ∧
    (takeChannel i s).tbs = s.tbs ∧
    (takeChannel i s).dre = s.dre ∧
    (takeChannel i s).conditions = s.conditions ∧
    (takeChannel i s).settings = s.settings ∧
    (takeChannel i s).lpt = s.lpt ∧
    (takeChannel i s).stl = s.stl ∧
    (takeChannel i s).microseconds = s.microseconds ∧
    (takeChannel i s).freeCount = s.freeCount ∧
    (takeChannel i s).pending = s.pending ∧
    (takeChannel i s).fca.sightingCount = s.fca.sightingCount := by
  unfold takeChannel
  ((try dsimp only) <;> (repeat' split) <;> (try rfl) <;> simp)

end Sys2Proof.Machine
end

