-- ==== Sys2Proof/Laws/Ticks.lean ====
section
/-! SUPPORT. Frames of the operations of Machine/Ticks.lean: what each leaves as it was. -/

namespace Sys2Proof.Machine

@[simp] theorem checksDue_frame (s : State) :
    (checksDue s).record = s.record ∧
    (checksDue s).agu = s.agu ∧
    (checksDue s).settings = s.settings ∧
    (checksDue s).stl = s.stl ∧
    (checksDue s).microseconds = s.microseconds ∧
    (checksDue s).freeCount = s.freeCount ∧
    (checksDue s).pending = s.pending ∧
    (checksDue s).lkc.discarding = s.lkc.discarding ∧
    (checksDue s).lpt.mask = s.lpt.mask ∧
    (checksDue s).lpt.answer = s.lpt.answer ∧
    (checksDue s).lpt.holdRequest = s.lpt.holdRequest ∧
    (checksDue s).lpt.configDigest = s.lpt.configDigest ∧
    (checksDue s).fca.sightingCount = s.fca.sightingCount := by
  refine ⟨?_, ?_, ?_, ?_, ?_, ?_, ?_, ?_, ?_, ?_, ?_, ?_, ?_⟩
  · unfold checksDue; refine foldl_keeps (fun s => s.record) _ ?_ _ _; intro s x; ((try dsimp only) <;> (repeat' split) <;> (try rfl) <;> simp)
  · unfold checksDue; refine foldl_keeps (fun s => s.agu) _ ?_ _ _; intro s x; ((try dsimp only) <;> (repeat' split) <;> (try rfl) <;> simp)
  · unfold checksDue; refine foldl_keeps (fun s => s.settings) _ ?_ _ _; intro s x; ((try dsimp only) <;> (repeat' split) <;> (try rfl) <;> simp)
  · unfold checksDue; refine foldl_keeps (fun s => s.stl) _ ?_ _ _; intro s x; ((try dsimp only) <;> (repeat' split) <;> (try rfl) <;> simp)
  · unfold checksDue; refine foldl_keeps (fun s => s.microseconds) _ ?_ _ _; intro s x; ((try dsimp only) <;> (repeat' split) <;> (try rfl) <;> simp)
  · unfold checksDue; refine foldl_keeps (fun s => s.freeCount) _ ?_ _ _; intro s x; ((try dsimp only) <;> (repeat' split) <;> (try rfl) <;> simp)
  · unfold checksDue; refine foldl_keeps (fun s => s.pending) _ ?_ _ _; intro s x; ((try dsimp only) <;> (repeat' split) <;> (try rfl) <;> simp)
  · unfold checksDue; refine foldl_keeps (fun s => s.lkc.discarding) _ ?_ _ _; intro s x; ((try dsimp only) <;> (repeat' split) <;> (try rfl) <;> simp)
  · unfold checksDue; refine foldl_keeps (fun s => s.lpt.mask) _ ?_ _ _; intro s x; ((try dsimp only) <;> (repeat' split) <;> (try rfl) <;> simp)
  · unfold checksDue; refine foldl_keeps (fun s => s.lpt.answer) _ ?_ _ _; intro s x; ((try dsimp only) <;> (repeat' split) <;> (try rfl) <;> simp)
  · unfold checksDue; refine foldl_keeps (fun s => s.lpt.holdRequest) _ ?_ _ _; intro s x; ((try dsimp only) <;> (repeat' split) <;> (try rfl) <;> simp)
  · unfold checksDue; refine foldl_keeps (fun s => s.lpt.configDigest) _ ?_ _ _; intro s x; ((try dsimp only) <;> (repeat' split) <;> (try rfl) <;> simp)
  · unfold checksDue; refine foldl_keeps (fun s => s.fca.sightingCount) _ ?_ _ _; intro s x; ((try dsimp only) <;> (repeat' split) <;> (try rfl) <;> simp)

@[simp] theorem slotDue_frame (s : State) :
    (slotDue s).record = s.record ∧
    (slotDue s).agu = s.agu ∧
    (slotDue s).tbs = s.tbs ∧
    (slotDue s).dre = s.dre ∧
    (slotDue s).fca = s.fca ∧
    (slotDue s).conditions = s.conditions ∧
    (slotDue s).settings = s.settings ∧
    (slotDue s).lpt = s.lpt ∧
    (slotDue s).stl = s.stl ∧
    (slotDue s).microseconds = s.microseconds ∧
    (slotDue s).freeCount = s.freeCount ∧
    (slotDue s).pending = s.pending ∧
    (slotDue s).lkc.queue = s.lkc.queue ∧
    (slotDue s).lkc.discarding = s.lkc.discarding ∧
    (slotDue s).rsc.link = s.rsc.link ∧
    (slotDue s).rsc.paused = s.rsc.paused ∧
    (slotDue s).rsc.span = s.rsc.span := by
  unfold slotDue
  ((try dsimp only) <;> (repeat' split) <;> (try rfl) <;> simp)

@[simp] theorem windowsDue_frame (s : State) :
    (windowsDue s).record = s.record ∧
    (windowsDue s).agu = s.agu ∧
    (windowsDue s).settings = s.settings ∧
    (windowsDue s).stl = s.stl ∧
    (windowsDue s).microseconds = s.microseconds ∧
    (windowsDue s).freeCount = s.freeCount ∧
    (windowsDue s).pending = s.pending ∧
    (windowsDue s).lkc.discarding = s.lkc.discarding ∧
    (windowsDue s).rsc.paused = s.rsc.paused ∧
    (windowsDue s).rsc.span = s.rsc.span ∧
    (windowsDue s).lpt.mask = s.lpt.mask ∧
    (windowsDue s).lpt.answer = s.lpt.answer ∧
    (windowsDue s).lpt.holdRequest = s.lpt.holdRequest ∧
    (windowsDue s).lpt.configDigest = s.lpt.configDigest ∧
    (windowsDue s).fca.sightingCount = s.fca.sightingCount := by
  refine ⟨?_, ?_, ?_, ?_, ?_, ?_, ?_, ?_, ?_, ?_, ?_, ?_, ?_, ?_, ?_⟩
  · unfold windowsDue; refine foldl_keeps (fun s => s.record) _ ?_ _ _; intro s x; ((try dsimp only) <;> (repeat' split) <;> (try rfl) <;> simp)
  · unfold windowsDue; refine foldl_keeps (fun s => s.agu) _ ?_ _ _; intro s x; ((try dsimp only) <;> (repeat' split) <;> (try rfl) <;> simp)
  · unfold windowsDue; refine foldl_keeps (fun s => s.settings) _ ?_ _ _; intro s x; ((try dsimp only) <;> (repeat' split) <;> (try rfl) <;> simp)
  · unfold windowsDue; refine foldl_keeps (fun s => s.stl) _ ?_ _ _; intro s x; ((try dsimp only) <;> (repeat' split) <;> (try rfl) <;> simp)
  · unfold windowsDue; refine foldl_keeps (fun s => s.microseconds) _ ?_ _ _; intro s x; ((try dsimp only) <;> (repeat' split) <;> (try rfl) <;> simp)
  · unfold windowsDue; refine foldl_keeps (fun s => s.freeCount) _ ?_ _ _; intro s x; ((try dsimp only) <;> (repeat' split) <;> (try rfl) <;> simp)
  · unfold windowsDue; refine foldl_keeps (fun s => s.pending) _ ?_ _ _; intro s x; ((try dsimp only) <;> (repeat' split) <;> (try rfl) <;> simp)
  · unfold windowsDue; refine foldl_keeps (fun s => s.lkc.discarding) _ ?_ _ _; intro s x; ((try dsimp only) <;> (repeat' split) <;> (try rfl) <;> simp)
  · unfold windowsDue; refine foldl_keeps (fun s => s.rsc.paused) _ ?_ _ _; intro s x; ((try dsimp only) <;> (repeat' split) <;> (try rfl) <;> simp)
  · unfold windowsDue; refine foldl_keeps (fun s => s.rsc.span) _ ?_ _ _; intro s x; ((try dsimp only) <;> (repeat' split) <;> (try rfl) <;> simp)
  · unfold windowsDue; refine foldl_keeps (fun s => s.lpt.mask) _ ?_ _ _; intro s x; ((try dsimp only) <;> (repeat' split) <;> (try rfl) <;> simp)
  · unfold windowsDue; refine foldl_keeps (fun s => s.lpt.answer) _ ?_ _ _; intro s x; ((try dsimp only) <;> (repeat' split) <;> (try rfl) <;> simp)
  · unfold windowsDue; refine foldl_keeps (fun s => s.lpt.holdRequest) _ ?_ _ _; intro s x; ((try dsimp only) <;> (repeat' split) <;> (try rfl) <;> simp)
  · unfold windowsDue; refine foldl_keeps (fun s => s.lpt.configDigest) _ ?_ _ _; intro s x; ((try dsimp only) <;> (repeat' split) <;> (try rfl) <;> simp)
  · unfold windowsDue; refine foldl_keeps (fun s => s.fca.sightingCount) _ ?_ _ _; intro s x; ((try dsimp only) <;> (repeat' split) <;> (try rfl) <;> simp)

@[simp] theorem bidDue_frame (s : State) :
    (bidDue s).record = s.record ∧
    (bidDue s).agu = s.agu ∧
    (bidDue s).tbs = s.tbs ∧
    (bidDue s).dre = s.dre ∧
    (bidDue s).fca = s.fca ∧
    (bidDue s).conditions = s.conditions ∧
    (bidDue s).settings = s.settings ∧
    (bidDue s).lpt = s.lpt ∧
    (bidDue s).stl = s.stl ∧
    (bidDue s).microseconds = s.microseconds ∧
    (bidDue s).freeCount = s.freeCount ∧
    (bidDue s).pending = s.pending ∧
    (bidDue s).lkc.queue = s.lkc.queue ∧
    (bidDue s).lkc.discarding = s.lkc.discarding ∧
    (bidDue s).rsc.link = s.rsc.link ∧
    (bidDue s).rsc.paused = s.rsc.paused ∧
    (bidDue s).rsc.span = s.rsc.span := by
  unfold bidDue
  ((try dsimp only) <;> (repeat' split) <;> (try rfl) <;> simp)

@[simp] theorem watchDue_frame (s : State) :
    (watchDue s).record = s.record ∧
    (watchDue s).agu = s.agu ∧
    (watchDue s).settings = s.settings ∧
    (watchDue s).stl = s.stl ∧
    (watchDue s).microseconds = s.microseconds ∧
    (watchDue s).freeCount = s.freeCount ∧
    (watchDue s).pending = s.pending ∧
    (watchDue s).lkc.discarding = s.lkc.discarding ∧
    (watchDue s).rsc.paused = s.rsc.paused ∧
    (watchDue s).lpt.mask = s.lpt.mask ∧
    (watchDue s).lpt.answer = s.lpt.answer ∧
    (watchDue s).lpt.holdRequest = s.lpt.holdRequest ∧
    (watchDue s).lpt.configDigest = s.lpt.configDigest ∧
    (watchDue s).fca.sightingCount = s.fca.sightingCount := by
  unfold watchDue
  ((try dsimp only) <;> (repeat' split) <;> (try rfl) <;> simp)

@[simp] theorem planDue_frame (s : State) :
    (planDue s).record = s.record ∧
    (planDue s).agu = s.agu ∧
    (planDue s).settings = s.settings ∧
    (planDue s).stl = s.stl ∧
    (planDue s).microseconds = s.microseconds ∧
    (planDue s).freeCount = s.freeCount ∧
    (planDue s).pending = s.pending ∧
    (planDue s).lkc.discarding = s.lkc.discarding ∧
    (planDue s).lpt.mask = s.lpt.mask ∧
    (planDue s).lpt.answer = s.lpt.answer ∧
    (planDue s).lpt.holdRequest = s.lpt.holdRequest ∧
    (planDue s).lpt.configDigest = s.lpt.configDigest ∧
    (planDue s).fca.sightingCount = s.fca.sightingCount := by
  unfold planDue
  ((try dsimp only) <;> (repeat' split) <;> (try rfl) <;> simp)

@[simp] theorem markPasses_frame (s : State) :
    (markPasses s).lkc = s.lkc ∧
    (markPasses s).record = s.record ∧
    (markPasses s).agu = s.agu ∧
    (markPasses s).tbs = s.tbs ∧
    (markPasses s).dre = s.dre ∧
    (markPasses s).fca = s.fca ∧
    (markPasses s).conditions = s.conditions ∧
    (markPasses s).settings = s.settings ∧
    (markPasses s).lpt = s.lpt ∧
    (markPasses s).stl = s.stl ∧
    (markPasses s).microseconds = s.microseconds ∧
    (markPasses s).freeCount = s.freeCount ∧
    (markPasses s).pending = s.pending ∧
    (markPasses s).rsc.link = s.rsc.link ∧
    (markPasses s).rsc.paused = s.rsc.paused ∧
    (markPasses s).rsc.span = s.rsc.span := by
  unfold markPasses
  ((try dsimp only) <;> (repeat' split) <;> (try rfl) <;> simp)

/-- Where round time stands after a mark. -/
theorem markPasses_roundTime (s : State) :
    (markPasses s).rsc.roundTime =
      if s.rsc.link = .offline then s.rsc.roundTime else min (s.rsc.roundTime + 1) Config.lastRoundTime := by
  unfold markPasses; split <;> rfl

end Sys2Proof.Machine
end

