-- ==== Sys2Proof/Tests/Slice0.lean ====
section
/-! SUPPORT. Own tests: the checks of WellFormed refuse their ill-formed terms; single steps of the worked sequences of spec/; and for every statement with hypotheses a state and operands that meet them. -/

namespace Sys2Proof.Machine.Tests

set_option Elab.async false

/-! ### The worked pass of spec/ -/

/-- One plan entry as its four bytes. -/
def planWord (kind owner mark period phase : Nat) : Option (BitVec 32) :=
  some (BitVec.ofNat 32 ((((kind * 16 + owner) * 4096 + mark) * 8 + period) * 32 + phase))

/-- The seven-station plan of Rounds and the Round Plan. -/
def sevenStations : List (Option (BitVec 32)) :=
  [planWord 0 2 0 0 0, planWord 0 3 40 0 0, planWord 0 4 80 0 0, planWord 0 5 120 0 0, planWord 0 7 160 0 0,
   planWord 0 9 200 0 0, planWord 0 11 240 0 0, planWord 1 0 280 0 0, planWord 1 0 320 0 0, planWord 1 0 360 2 1,
   planWord 1 0 400 0 0, planWord 2 0 440 0 0, planWord 3 0 640 0 0, planWord 4 0 0 0 0] ++
  List.replicate 26 none

/-- The configuration of the worked sequences: four levels, the chokes, a cushion of 300. -/
def configured : Settings :=
  { Settings.reset with
    planLength := 14, plan := sevenStations, levels := 4
    chokes := [some 800, some 1400, some 2000, some 2600, none, none], cushion := some 300 }

/-- A strap word at rate code 2. -/
def strap (station role place rank : Nat) : BitVec 14 :=
  BitVec.ofNat 14 ((((station * 4 + role) * 8 + place) * 8 + rank) * 4 + 2)

def monitor2 : BitVec 14 := strap 2 3 0 1
def chute3 : BitVec 14 := strap 3 2 1 2
def tip4 : BitVec 14 := strap 4 0 3 0
def tip5 : BitVec 14 := strap 5 0 4 0
def breaker7 : BitVec 14 := strap 7 1 3 0
def chute11 : BitVec 14 := strap 11 2 2 2

/-- A closed lot. -/
def shutLot (number : Nat) (kind : LotKind) (source grade tonnes : Nat) : Lot :=
  { number := number, kind := kind, source := source, gradeClass := grade, tonnes := tonnes, held := none }

/-- An OPEN lot. -/
def openLot (number source grade tonnes held : Nat) : Lot :=
  { number := number, kind := .tipped, source := source, gradeClass := grade, tonnes := tonnes, held := some held }

/-- A NORMAL and verified column. -/
def columnOf (lots : List Lot) (next : Nat) : Column :=
  { lots := lots, hung := none, unverified := false, overdraw := 0, nextLot := next }

/-- A grant with a full lease of 48. -/
def grantTo (holder : Nat) (p : Purpose) (reservation : Nat) : Grant :=
  { holder := holder, purpose := p, lease := 48, reservation := reservation }

/-- A waiting entry. -/
def waiting (station : Nat) (row : Row) (p : Purpose) (age reservation : Nat) : WaitEntry :=
  { station := station, row := row, purpose := p, age := age, reservation := reservation }

/-- A record with every row free and nobody waiting. -/
def freeRecord (c : Column) : Record := { column := c, table := ClaimTable.free, queue := [] }

/-- A station at work in round 5 of sequence 0, as its strap word says, under the worked configuration. -/
def atWork (word : BitVec 14) (link : LinkState) (r : Option Record) : State :=
  { State.reset with
    rsc := { Rsc.reset with
      link := link, span := .inRound, roundNumber := 5, sequence := 0
      miss := List.replicate 12 0 }
    record := r, settings := configured
    lpt := { Lpt.reset with configDigest := some 0x1234 }
    stl := { word := word, loaded := true, ticks := 15 } }

/-- An IN-STEP station with a record. -/
def inStep (word : BitVec 14) (r : Record) : State := atWork word .inStep (some r)

/-- The state a step answers. -/
def nextOf (o : Outcome) : Option State :=
  match o with
  | .next t => some t
  | .fault _ | .refused _ => none

/-- A property of the state a step answers. -/
def gives (i : Instr) (s : State) (p : State → Bool) : Bool := (nextOf (exec i s)).any p

/-- A property of the record a step leaves. -/
def leaves (i : Instr) (s : State) (p : Record → Bool) : Bool := gives i s fun t => t.record.any p

/-! ### WellFormed refuses each ill-formed term -/

def someFields : StatusFields :=
  { link := 4, grade := 0, hold := false, frozen := false, role := 0, place := 3, digest := 0x1111
    config := 0x1234, present := 0, holding := 0, piece := none }

theorem test_senders_outside_one_to_twelve_refused :
    (∀ k ∈ [(0 : BitVec 4), 13],
      [Instr.openingFrame k 0 0 false 0, .statusFrame k someFields 0, .hangupFrame k 1, .unhangFrame k 1,
       .releaseFrame k 1, .withdrawFrame k 1, .drawFrame k 1 1, .lotInFrame k 1 1 0 0, .brokenFrame k 1 false 0,
       .sightingFrame k 0, .claimFrame k 1 1, .catchupFrame k 1, .caughtFrame k 1, .statusCheck k,
       .waitLimitRemoval k].all (fun i => !i.wellFormed) = true) := by decide +kernel

theorem test_round_times_beyond_4095_refused :
    Instr.wellFormed (.statusFrame 4 someFields 4096) = false ∧
    Instr.wellFormed (.frameDiscard [false] 4096) = false := by decide +kernel

theorem test_discard_without_start_bit_refused :
    Instr.wellFormed (.frameDiscard [] 0) = false ∧ Instr.wellFormed (.frameDiscard [true, false] 0) = false := by
  decide +kernel

theorem test_window_beyond_the_plan_refused : Instr.wellFormed (.window 40 false) = false := by decide +kernel

theorem test_empty_runs_of_ticks_refused :
    Instr.wellFormed (.debouncedLevelChange 0 true 0) = false ∧
    Instr.wellFormed (.readbackFault 0 0) = false := by decide +kernel

/-! ### A tip with oversize, then a break (The Ore Column) -/

def twoLots : List Lot := [shutLot 17 .tipped 1 2 420, shutLot 18 .tipped 2 3 180]

/-- The record at the start of the sequence. -/
def tipStart : Record :=
  { freeRecord (columnOf twoLots 19) with
    table := { ClaimTable.free with level2 := some (grantTo 9 .tip 60), level3 := some (grantTo 4 .tip 60) } }

theorem test_lotIn_frame_appends_an_open_lot_and_frees_the_row :
    leaves (.lotInFrame 4 3 45 15 4) (inStep monitor2 tipStart) (fun r =>
      decide (r.column = columnOf (twoLots ++ [openLot 19 3 4 45 15]) 20 ∧ r.table.level3 = none ∧
        r.table.reserved = 60 ∧ r.column.total = 645)) = true := by decide +kernel

/-- The record after frame 1. -/
def afterTip : Record :=
  { freeRecord (columnOf (twoLots ++ [openLot 19 3 4 45 15]) 20) with
    table := { ClaimTable.free with level2 := some (grantTo 9 .tip 60) } }

theorem test_claim_frame_for_a_break_ignores_the_open_lot :
    leaves (.claimFrame 7 3 2) (inStep monitor2 afterTip) (fun r =>
      decide (r.table.level3 = some (grantTo 7 .brk 60) ∧ r.queue = [] ∧ r.table.reserved = 120)) = true := by
  decide +kernel

theorem test_lotIn_frame_that_chokes_level_1 :
    gives (.lotInFrame 9 2 120 0 3)
      (inStep monitor2 { afterTip with table := { afterTip.table with level3 := some (grantTo 7 .brk 60) } })
      (fun t => t.notice .choke && t.record.any fun r =>
        decide (r.choked configured 1 = true ∧ r.choked configured 2 = false ∧ r.column.total = 765)) = true := by
  decide +kernel

/-- The record after frame 3. -/
def beforeBreak : Record :=
  { freeRecord (columnOf (twoLots ++ [openLot 19 3 4 45 15, shutLot 20 .tipped 2 3 120]) 21) with
    table := { ClaimTable.free with level3 := some (grantTo 7 .brk 60) } }

theorem test_claim_frame_for_a_held_level_waits :
    leaves (.claimFrame 4 3 1) (inStep monitor2 beforeBreak) (fun r =>
      decide (r.queue = [waiting 4 .level3 .tip 0 60] ∧ r.table.level3 = some (grantTo 7 .brk 60))) = true := by
  decide +kernel

theorem test_broken_frame_closes_its_lot_and_the_scan_grants :
    leaves (.brokenFrame 7 3 true 18) (inStep monitor2 { beforeBreak with queue := [waiting 4 .level3 .tip 0 60] })
      (fun r => decide (
        r.column = columnOf (twoLots ++
          [shutLot 19 .tipped 3 4 45, shutLot 20 .tipped 2 3 120, shutLot 21 .broken 3 4 18]) 22 ∧
        r.table.level3 = some (grantTo 4 .tip 60) ∧ r.queue = [])) = true := by decide +kernel

theorem test_broken_frame_with_cleared_clear_keeps_one_held_tonne :
    leaves (.brokenFrame 7 3 false 18) (inStep monitor2 { beforeBreak with queue := [waiting 4 .level3 .tip 0 60] })
      (fun r => decide (r.column.lots[2]? = some (openLot 19 3 4 45 1) ∧ r.table.level3 = none ∧
        r.queue = [waiting 4 .level3 .tip 0 60])) = true := by decide +kernel

/-! ### Draws emptying an OPEN lot (The Ore Column) -/

theorem test_draw_frame_keeps_an_emptied_open_lot :
    leaves (.drawFrame 3 1 50)
      (inStep monitor2
        (freeRecord (columnOf [openLot 40 1 1 30 25, shutLot 41 .tipped 2 2 200, shutLot 42 .broken 4 0 50] 43)))
      (fun r => decide (r.column =
        columnOf [openLot 40 1 1 0 25, shutLot 41 .tipped 2 2 180, shutLot 42 .broken 4 0 50] 43)) = true := by
  decide +kernel

theorem test_draw_frame_past_the_newest_lot_underruns :
    gives (.drawFrame 3 1 40)
      (inStep monitor2 (freeRecord (columnOf [openLot 40 1 1 0 1, shutLot 43 .broken 1 1 20] 44)))
      (fun t => t.active .underrun && t.record.any fun r => decide (r.column =
        { columnOf [openLot 40 1 1 0 1] 44 with overdraw := 20, unverified := true })) = true := by decide +kernel

theorem test_sighting_frame_adds_to_the_newest_lot_and_clears :
    gives (.sightingFrame 2 35)
      { inStep tip4 (freeRecord { columnOf [shutLot 40 .tipped 1 1 6] 44 with overdraw := 20, unverified := true })
        with conditions := BitVec.twoPow 13 11 }
      (fun t => !t.active .underrun && !t.active .sightJump && t.record.any fun r =>
        decide (r.column = columnOf [shutLot 40 .tipped 1 1 35] 44)) = true := by decide +kernel

theorem test_sighting_frame_on_an_empty_column_founds_a_lot :
    leaves (.sightingFrame 2 35) (inStep tip4 (freeRecord (columnOf [] 44))) (fun r =>
      decide (r.column = columnOf [shutLot 44 .found 0 7 35] 45)) = true := by decide +kernel

/-! ### Claims (Claims on the Pass) -/

def eightLots : List Lot := (List.range 8).map fun i => shutLot (10 + i) .tipped 1 2 125

/-- Access waits behind tips: CHUTE-1 still held, ACCESS and LEVEL-4 waiting. -/
def accessWaits : Record :=
  { column := columnOf eightLots 18, table := { ClaimTable.free with chute1 := some (grantTo 11 .draw 0) }
    queue := [waiting 2 .access .access 1 0, waiting 5 .level4 .tip 1 60] }

theorem test_release_frame_grants_access_and_no_younger_level :
    gives (.releaseFrame 11 7) { inStep monitor2 accessWaits with lpt := { Lpt.reset with
        configDigest := some 0x1234, access := .asking } }
      (fun t => decide (t.lpt.access = .held) && t.notice .granted && t.record.any fun r =>
        decide (r.table = { ClaimTable.free with access := some (grantTo 2 .access 0) } ∧
          r.queue = [waiting 5 .level4 .tip 1 60])) = true := by decide +kernel

theorem test_withdraw_frame_removes_the_waiting_entry :
    leaves (.withdrawFrame 2 9) (inStep tip4 accessWaits) (fun r =>
      decide (r.queue = [] ∧ r.table.level4 = some (grantTo 5 .tip 60) ∧ r.table.access = none)) = true := by
  decide +kernel

theorem test_lease_expiry_frees_the_row_and_the_scan_grants :
    leaves (.leaseExpiry .chute1)
      (inStep monitor2
        { accessWaits with
          table := { ClaimTable.free with chute1 := some { grantTo 11 .draw 0 with lease := 1 } } })
      (fun r => decide (r.table = { ClaimTable.free with access := some (grantTo 2 .access 0) })) = true := by
  decide +kernel

theorem test_wait_limit_removal_takes_the_entry :
    leaves (.waitLimitRemoval 2)
      (inStep tip4 { accessWaits with queue := [waiting 2 .access .access 96 0, waiting 5 .level4 .tip 1 60] })
      (fun r => decide (r.queue = [] ∧ r.table.level4 = some (grantTo 5 .tip 60))) = true := by decide +kernel

theorem test_status_frame_renews_a_listed_row :
    leaves (.statusFrame 11 { someFields with holding := 0x40 } 240)
      (inStep tip4
        { accessWaits with
          table := { ClaimTable.free with chute1 := some { grantTo 11 .draw 0 with lease := 5 } } })
      (fun r => decide (r.table.chute1 = some (grantTo 11 .draw 0))) = true := by decide +kernel

theorem test_status_frame_reconciles_a_row_not_listed :
    leaves (.statusFrame 11 someFields 240) (inStep tip4 accessWaits)
      (fun r => decide (r.table = { ClaimTable.free with access := some (grantTo 2 .access 0) })) = true := by
  decide +kernel

/-! ### The Pass Link -/

/-- The identifiers of three frames in one window: 146, 83 and 27. -/
theorem test_identifiers_of_the_three_frames :
    ((frameOf (.claimFrame 2 9 4)).map fun f => natOfBits (f.body.take 8)) = some 146 ∧
    ((frameOf (.drawFrame 3 1 40)).map fun f => natOfBits (f.body.take 8)) = some 83 ∧
    ((frameOf (.hangupFrame 11 2)).map fun f => natOfBits (f.body.take 8)) = some 27 := by decide +kernel

/-- An OPENING is 73 bit times before inserted bits, and at most 13 more. -/
theorem test_opening_is_73_bit_times :
    ((frameOf (.openingFrame 2 8 31 false 0x1234)).map fun f => 1 + f.body.length + 16 + 3) = some 73 ∧
    ((frameOf (.openingFrame 2 0 0 false 0)).any fun f => decide (f.line.length ≤ 86)) = true := by decide +kernel

/-- The bits sent, read back with the bit at `n` inverted. -/
def misread (n : Nat) (s : State) : List Bool := s.sentBits.set n (!s.sentBits.getD n true)

/-- A CLAIM of the MONITOR station: identifier 10010010, behind the start bit. -/
def claimOnTheLine : State :=
  { inStep monitor2 accessWaits with
    lkc := { Lkc.reset with queue := [.claim .access .access], sending := some (.event (.claim .access .access)) } }

theorem test_read_back_of_the_identifier_and_after :
    claimOnTheLine.sentBits.take 9 = [false, true, false, false, true, false, false, true, false] ∧
    claimOnTheLine.readBack claimOnTheLine.sentBits = .agrees ∧
    claimOnTheLine.readBack (misread 0 claimOnTheLine) = .failed 0 ∧
    claimOnTheLine.readBack (misread 1 claimOnTheLine) = .lost 1 ∧
    claimOnTheLine.readBack (misread 2 claimOnTheLine) = .failed 2 ∧
    claimOnTheLine.readBack (misread 7 claimOnTheLine) = .lost 7 ∧
    claimOnTheLine.readBack (misread 9 claimOnTheLine) = .failed 9 := by decide +kernel

/-- Six dominant bits and the inserted recessive one behind them: an OPENING of station 2 has its last identifier bits after it. -/
theorem test_inserted_bits_belong_to_the_identifier :
    (frameOf (.openingFrame 2 8 31 false 0x1234)).map RawFrame.arbitrationPart = some 10 ∧
    (frameOf (.claimFrame 2 9 4)).map RawFrame.arbitrationPart = some 9 := by decide +kernel

theorem test_line_while_sending_and_while_silent :
    claimOnTheLine.driven 0 = { ltx := false, len := true } ∧ claimOnTheLine.driven 1 = { ltx := true, len := false } ∧
    (inStep monitor2 accessWaits).driven 0 = { ltx := true, len := false } ∧
    State.reset.driven 0 = { ltx := true, len := false } := by decide +kernel

theorem test_arbitration_loss_counts_against_the_head :
    gives (.arbitrationLoss (misread 1 claimOnTheLine))
      claimOnTheLine
      (fun t => decide (t.lkc.losses = 1 ∧ t.lkc.sending = none ∧ t.lkc.queue = [.claim .access .access])) = true ∧
    gives (.arbitrationLoss (misread 9 claimOnTheLine)) claimOnTheLine
      (fun t => decide (t.lkc = claimOnTheLine.lkc)) = true := by decide +kernel

theorem test_hangup_frame_hangs_the_column_and_frees_both_chutes :
    gives (.hangupFrame 11 2)
      (inStep chute3
        { freeRecord (columnOf twoLots 19) with
          table := { ClaimTable.free with chute1 := some (grantTo 3 .draw 0), chute2 := some (grantTo 11 .draw 0) } })
      (fun t => t.notice .hangup && t.notice .lost && decide (t.dre.state = .hung) && t.record.any fun r =>
        decide (r.table = ClaimTable.free ∧ r.column.hung = some { chute := 2, stamp := 5, total := 600 })) = true := by
  decide +kernel

theorem test_unhang_frame_leaves_the_column_unverified :
    leaves (.unhangFrame 3 1)
      (inStep tip4 (freeRecord { columnOf twoLots 19 with hung := some { chute := 2, stamp := 5, total := 600 } }))
      (fun r => decide (r.column = { columnOf twoLots 19 with unverified := true })) = true := by decide +kernel

/-- A SIGHTING on the line after three own-frame failures. -/
def failing : State :=
  { inStep tip4 tipStart with
    lkc := { Lkc.reset with queue := [.sighting 9], sending := some (.event (.sighting 9)), ownFailures := 3 } }

theorem test_own_frame_failure_keeps_the_frame :
    gives (.ownFrameFailure (misread 20 failing)) failing
      (fun t => t.active .transmitter && decide (t.rsc.link = .halted ∧ t.lkc.queue = [.sighting 9])) = true := by
  decide +kernel

theorem test_frame_discard_past_the_open_mark_abandons_the_round :
    gives (.frameDiscard [false, false] 440) (inStep tip4 tipStart)
      (fun t => decide (t.lkc.badFrames = 1 ∧ t.rsc.abandoned = true ∧ t.rsc.span = .unopened)) = true := by
  decide +kernel

theorem test_receiver_that_returns_restarts_an_abandoned_round :
    gives .receiverReturnsToWaiting
      { inStep tip4 tipStart with
        lkc := { Lkc.reset with discarding := true, restartAtReturn := true }
        rsc := { (inStep tip4 tipStart).rsc with roundTime := 491 } }
      (fun t => decide (t.rsc.roundTime = 0 ∧ t.lkc.discarding = false)) = true := by decide +kernel

/-! ### Rounds, joining and agreement -/

/-- The plan passes all eleven checks at each of the seven stations. -/
theorem test_the_plan_passes_at_every_station :
    ∀ k ∈ [2, 3, 4, 5, 7, 9, 11], ∀ b ∈ planChecks configured k, b = true := by decide +kernel

theorem test_opening_bid_carries_the_next_round :
    gives (.openingBid false)
      { inStep monitor2 tipStart with rsc := { (inStep monitor2 tipStart).rsc with roundNumber := 7, sequence := 31 } }
      (fun t => decide (t.rsc.roundTime = 440 ∧ t.lkc.sending = some (.opening 8 31 false 0x1234))) = true := by
  decide +kernel

theorem test_window_of_every_third_round :
    gives (.window 9 false)
      { inStep monitor2 tipStart with
        rsc := { (inStep monitor2 tipStart).rsc with roundNumber := 7 }
        lkc := { Lkc.reset with queue := [.sighting 9] } }
      (fun t => decide (t.rsc.roundTime = 360 ∧ t.lkc.sending = some (.event (.sighting 9)))) = true ∧
    gives (.window 9 false)
      { inStep monitor2 tipStart with
        rsc := { (inStep monitor2 tipStart).rsc with roundNumber := 8 }
        lkc := { Lkc.reset with queue := [.sighting 9] } }
      (fun t => decide (t.lkc.sending = none)) = true := by decide +kernel

theorem test_status_slot_starts_the_status_frame :
    gives (.statusSlot false) (inStep tip4 tipStart)
      (fun t => decide (t.rsc.roundTime = 80) && decide (t.lkc.sending = some (.status t.statusFields))) = true := by
  decide +kernel

theorem test_status_check_missed_three_times_loses_the_peer :
    gives (.statusCheck 11)
      { inStep tip4 tipStart with rsc := { (inStep tip4 tipStart).rsc with miss := List.replicate 12 2 } }
      (fun t => t.active .peerLoss && t.notice .peers && !t.isPresent 11 && decide (t.missOf 11 = 3)) = true := by
  decide +kernel

theorem test_watch_expiry_takes_joining_back_to_listen :
    gives .watchExpiry (atWork tip5 .joining none)
      (fun t => t.active .watch && decide (t.rsc.link = .listen ∧ t.rsc.span = .unopened)) = true := by decide +kernel

theorem test_sixteenth_listen_span_is_link_silent :
    gives .listenSpanEnd
      { atWork tip5 .listen none with rsc := { (atWork tip5 .listen none).rsc with silentSpans := 15 } }
      (fun t => t.active .linkSilent && decide (t.rsc.silentSpans = 16)) = true := by decide +kernel

theorem test_opening_frame_takes_listen_to_joining :
    gives (.openingFrame 2 4 0 false 0x1234) (atWork tip5 .listen none)
      (fun t => decide (t.rsc.link = .joining ∧ t.rsc.joiningCount = 0 ∧ t.rsc.roundNumber = 4)) = true := by
  decide +kernel

/-- The station alone on the line, in JOINING with count 1. -/
def alone : State :=
  { atWork monitor2 .joining none with
    rsc := { (atWork monitor2 .joining none).rsc with joiningCount := 1, miss := List.replicate 12 7 }
    settings := { configured with founding := 1200 } }

theorem test_joining_decision_founds_the_record :
    gives .joiningDecision alone
      (fun t => decide (t.rsc.link = .inStep) && t.notice .column && t.record.any fun r =>
        decide (r = freeRecord { columnOf [shutLot 65535 .found 0 7 1200] 0 with unverified := true })) = true := by
  decide +kernel

theorem test_catchup_frame_begins_a_freeze :
    gives (.catchupFrame 5 2)
      { inStep monitor2 accessWaits with rsc := { (inStep monitor2 accessWaits).rsc with sequence := 40 } }
      (fun t => t.notice .freeze && decide (t.agu.tracker =
        { run := some { provider := 2, receivers := 0x010, remaining := 96 }, imageId := 40 }) &&
        t.agu.snapshot.any fun x => decide (x.totalPieces = 9)) = true := by decide +kernel

theorem test_caught_frame_of_the_last_receiver_ends_the_freeze :
    gives (.caughtFrame 9 1)
      { inStep monitor2 accessWaits with agu := { Agu.reset with
          tracker := { run := some { provider := 2, receivers := 0x100, remaining := 87 }, imageId := 41 } } }
      (fun t => decide (t.agu.tracker = { run := none, imageId := 41 })) = true := by decide +kernel

theorem test_freeze_limit_ends_the_freeze :
    gives .freezeLimit
      { inStep monitor2 accessWaits with agu := { Agu.reset with
          tracker := { run := some { provider := 2, receivers := 0x100, remaining := 1 }, imageId := 41 } } }
      (fun t => decide (t.agu.tracker.run = none) && t.notice .freeze) = true := by decide +kernel

theorem test_retry_due_after_two_unfrozen_rounds :
    gives .retryDue
      { atWork tip5 .catchup none with
        agu := { Agu.reset with receiver := .backoff, failures := 1, backoffRounds := 1 }
        rsc := { (atWork tip5 .catchup none).rsc with
          heard := [none, some { link := 4, config := 0x1234, digest := 0xA }] ++ List.replicate 10 none } }
      (fun t => decide (t.agu.receiver = .asking ∧ t.lkc.queue = [.catchup 2])) = true := by decide +kernel

/-! ### Sessions, orders and the gate -/

theorem test_tip_begin_queues_the_claim :
    gives .tipBegin (inStep tip5 (freeRecord (columnOf twoLots 19)))
      (fun t => decide (t.lpt.answer = some .taken ∧ t.tbs.state = .asking ∧ t.lkc.queue = [.claim .level4 .tip])) = true := by
  decide +kernel

/-- A tip in progress: the record as round 13 finds it. -/
def tipping (paused : Bool) : State :=
  { inStep tip5
      { freeRecord (columnOf twoLots 19) with
        table := { ClaimTable.free with level4 := some (grantTo 5 .tip 60) } } with
    tbs := { Tbs.reset with state := .granted, lastResult := .granted, output := !paused }
    rsc := { (inStep tip5 tipStart).rsc with paused := paused } }

theorem test_tip_end_in_a_paused_round :
    gives (.tipEnd 52 14 3) (tipping true)
      (fun t => decide (t.lpt.answer = some .taken ∧ t.tbs.state = .ending ∧ t.tbs.closing = .lotIn ∧
        t.tbs.pendingEnd = some (.tip 52 14 3) ∧ t.lkc.queue = [.lotIn 4 52 14 3])) = true := by decide +kernel

theorem test_tip_abandon_of_a_granted_session_releases :
    gives .tipAbandon (tipping false)
      (fun t => decide (t.tbs.state = .ending ∧ t.tbs.closing = .release ∧ t.tbs.output = false ∧
        t.lkc.queue = [.release .level4])) = true := by decide +kernel

/-- The abandoning worked sequence: the WITHDRAW is sent while the CLAIM is held back. -/
theorem test_own_withdraw_ends_the_session_and_the_claim_stays :
    gives (.withdrawFrame 4 3)
      { inStep tip4 (freeRecord (columnOf twoLots 19)) with
        tbs := { Tbs.reset with state := .ending, closing := .withdraw, claimInQueue := true }
        lkc := { Lkc.reset with
          queue := [.claim .level3 .tip, .withdraw .level3], sending := some (.event (.withdraw .level3)) } }
      (fun t => decide (t.tbs.state = .idle ∧ t.tbs.lastResult = .ended ∧ t.lkc.queue = [.claim .level3 .tip])) = true := by
  decide +kernel

theorem test_break_begin_at_a_tip_station_is_refused :
    gives .breakBegin (inStep tip5 tipStart) (fun t => decide (t.lpt.answer = some .role)) = true := by decide +kernel

theorem test_break_end_queues_the_broken :
    gives (.breakEnd 18 1)
      { inStep breaker7 beforeBreak with tbs := { Tbs.reset with state := .granted, output := true } }
      (fun t => decide (t.lkc.queue = [.broken 3 18 true] ∧ t.tbs.output = false)) = true := by decide +kernel

theorem test_break_abandon_while_asking_withdraws :
    gives .breakAbandon { inStep breaker7 afterTip with tbs := { Tbs.reset with state := .asking } }
      (fun t => decide (t.lkc.queue = [.withdraw .level3] ∧ t.tbs.closing = .withdraw)) = true := by decide +kernel

/-- A chute drawing under an unverified column: 90 t announced and applied, 50 t on the way, total 670. -/
def drawing (word : BitVec 14) (row : Grant → ClaimTable) (holder : Nat) (d : Dre) : State :=
  { inStep word
      { freeRecord { columnOf [shutLot 1 .tipped 1 1 670] 2 with unverified := true } with
        table := row (grantTo holder .draw 0) } with dre := d }

def chuteOne (g : Grant) : ClaimTable := { ClaimTable.free with chute1 := some g }

def running : Dre :=
  { Dre.reset with
    current := some (.draw 400 140), state := .running, gate := .isOpen, queued := 50 }

/-- A channel whose mode was set before the last field tick. -/
def conditioning : Channel := { Channel.reset with fresh := false }

/-- Belt-scale at FC0, four pulses to the tonne, rising edges. -/
def withBelt (whole remainder : Nat) (s : State) : State :=
  setChannel 0 { conditioning with
    mode := 3, x := 4, y := 0, binding := 6, whole := whole, remainder := remainder } s

/-- The order ends with CUSHION at the take that brings the margin to 0; the take here is of 20 t at once. -/
theorem test_count_in_edge_that_ends_the_order_with_cushion :
    gives (.countInEdge 0 true true) (withBelt 19 3 (drawing chute3 chuteOne 3 running))
      (fun t => decide (t.dre.state = .idle ∧ t.dre.lastOutcome = .cushion ∧ t.dre.gate = .closing ∧
        t.dre.unannounced = 20 ∧ t.dre.queued = 50 ∧ t.dre.releasePending = true ∧
        t.lkc.queue = [.release .chute1])) = true := by decide +kernel

theorem test_count_in_edge_of_the_other_kind_counts_nothing :
    gives (.countInEdge 0 false true) (withBelt 0 3 (drawing chute3 chuteOne 3 running))
      (fun t => decide ((t.channel 0).remainder = 3 ∧ t.dre.unannounced = 0)) = true := by decide +kernel

theorem test_draw_queue_asks_for_the_row :
    gives (.drawQueue 1 400) (inStep chute3 (freeRecord (columnOf [shutLot 1 .tipped 1 1 760] 2)))
      (fun t => decide (t.lpt.answer = some .taken ∧ t.dre.state = .asking ∧
        t.dre.current = some (.draw 400 0) ∧ t.lkc.queue = [.claim .chute1 .draw])) = true := by decide +kernel

theorem test_draw_stop_closes_and_releases :
    gives .drawStop (drawing chute3 chuteOne 3 running)
      (fun t => decide (t.dre.state = .idle ∧ t.dre.gate = .closing ∧ t.dre.lastOutcome = .stopped ∧
        t.lkc.queue = [.release .chute1] ∧ t.dre.closeValve = true)) = true := by decide +kernel

theorem test_dwell_complete_ends_the_order :
    gives .dwellComplete
      (drawing chute3 chuteOne 3 { running with state := .dwelling, current := some (.dwell 5 1), gate := .shut })
      (fun t => decide (t.dre.state = .idle ∧ t.dre.lastOutcome = .complete)) = true := by decide +kernel

theorem test_flow_timeout_declares_the_hangup :
    gives .flowTimeout (drawing chute3 chuteOne 3 { running with flowWatch := 39 })
      (fun t => decide (t.dre.state = .hung ∧ t.dre.ownHangup = true ∧ t.lkc.queue = [.hangup 1] ∧
        t.dre.gate = .closing)) = true := by decide +kernel

/-- A stuck gate at chute 2. -/
def idleClosing : State :=
  { inStep chute11 (freeRecord (columnOf twoLots 19)) with
    dre := { Dre.reset with gate := .closing, strokeCount := 7999, closeValve := true } }

theorem test_gate_stuck_faults_the_engine :
    gives .gateStuck idleClosing
      (fun t => t.active .actuator && decide (t.grade = 2 ∧ t.dre.gate = .stuck ∧ t.dre.state = .faulted ∧
        t.dre.closeValve = false)) = true := by decide +kernel

/-- The station after the stick. -/
def stuck : State :=
  { idleClosing with
    dre := { Dre.reset with gate := .stuck, state := .faulted }, conditions := BitVec.twoPow 13 4 }

theorem test_fault_clear_keeps_actuator_while_stuck :
    gives .faultClear stuck (fun t => t.active .actuator && !t.notice .grade) = true ∧
    gives (.drawQueue 1 40) stuck (fun t => decide (t.lpt.answer = some .degraded)) = true := by decide +kernel

theorem test_fault_clear_with_the_gate_shut_frees_the_engine :
    gives .faultClear { stuck with dre := { Dre.reset with gate := .shut, state := .faulted } }
      (fun t => !t.active .actuator && decide (t.dre.state = .idle) && t.notice .grade) = true := by decide +kernel

theorem test_gate_reset_starts_a_closing_stroke :
    gives .gateReset stuck
      (fun t => decide (t.lpt.answer = some .taken ∧ t.dre.gate = .closing ∧ t.dre.state = .faulted ∧
        t.dre.closeValve = true)) = true := by decide +kernel

theorem test_unhang_request_on_a_normal_column_is_busy :
    gives .unhang (inStep chute3 tipStart) (fun t => decide (t.lpt.answer = some .busy)) = true := by decide +kernel

/-! ### The channels -/

/-- The level gauge at FC3 after three pulses: sum 3600, sighting count 31, total 1180. -/
def gauged : State :=
  let s := inStep monitor2 (freeRecord (columnOf [shutLot 1 .tipped 1 1 1180] 2))
  setChannel 3 { conditioning with mode := 5, x := 20, y := 4, binding := 10, sum := 3600, pulses := 3 }
    { s with settings := { configured with sightingSource := 1 }, fca := { Fca.reset with sightingCount := 31 } }

theorem test_width_in_pulse_completes_the_average_and_sights :
    gives (.widthInPulse 3 968 true) gauged
      (fun t => decide ((t.channel 3).average = some 1202 ∧ (t.channel 3).sum = 0 ∧ (t.channel 3).pulses = 0 ∧
        t.lkc.queue = [.sighting 1202])) = true := by decide +kernel

theorem test_width_in_pulse_joins_the_sum :
    gives (.widthInPulse 3 976 true) (setChannel 3 { gauged.channel 3 with sum := 1200, pulses := 1 } gauged)
      (fun t => decide ((t.channel 3).sum = 2420 ∧ (t.channel 3).pulses = 2)) = true := by decide +kernel

/-- A LOCAL channel at FC5. -/
def withChannel (ch : Channel) : State := setChannel 5 ch (inStep tip4 tipStart)

theorem test_debounced_level_change_after_x_ticks :
    gives (.debouncedLevelChange 5 true 3)
      (withChannel { conditioning with mode := 1, x := 3, level := some false })
      (fun t => t.notice .channel && decide ((t.channel 5).level = some true ∧ (t.channel 5).ready = true)) = true ∧
    gives (.debouncedLevelChange 5 true 2)
      (withChannel { conditioning with mode := 1, x := 3, level := some false })
      (fun t => decide ((t.channel 5).level = some false)) = true := by decide +kernel

theorem test_capture_in_edge_records_the_round :
    gives (.captureInEdge 5 true true) (withChannel { conditioning with mode := 4 })
      (fun t => decide ((t.channel 5).capture = some (.timed 5 0) ∧ (t.channel 5).ready = true)) = true := by
  decide +kernel

theorem test_readback_past_x_faults_a_bound_output :
    gives (.readbackFault 5 6) (withChannel { Channel.reset with mode := 2, x := 5, binding := 8 })
      (fun t => t.active .actuator && (t.channel 5).fault && t.notice .channel) = true ∧
    gives (.readbackFault 5 5) (withChannel { Channel.reset with mode := 2, x := 5, binding := 8 })
      (fun t => !(t.channel 5).fault) = true := by decide +kernel

theorem test_readback_agree_clears_the_flag_alone :
    gives (.readbackAgree 5)
      { withChannel { Channel.reset with mode := 2, x := 5, binding := 8, fault := true } with
        conditions := BitVec.twoPow 13 4 }
      (fun t => t.active .actuator && !(t.channel 5).fault) = true := by decide +kernel

theorem test_set_output_drives_a_local_channel :
    gives (.setOutput 5 1) (withChannel { Channel.reset with mode := 2, x := 5, y := 1, pin := true })
      (fun t => (t.channel 5).commanded && !(t.channel 5).pin) = true ∧
    gives (.setOutput 5 1) (withChannel { Channel.reset with mode := 2, x := 5, binding := 8 })
      (fun t => decide (t.lpt.answer = some .bound)) = true := by decide +kernel

theorem test_take_empties_a_count_and_keep_does_not :
    gives (.readChannelTake 5) (withChannel { conditioning with mode := 3, x := 4, whole := 7, ready := true })
      (fun t => decide ((t.channel 5).whole = 0 ∧ (t.channel 5).ready = false ∧
        t.lpt.readData = [3, 0, 0x80, 0, 7, 0, 0, 0, 0])) = true ∧
    gives (.readChannelKeep 5) (withChannel { conditioning with mode := 3, x := 4, whole := 7, ready := true })
      (fun t => decide ((t.channel 5).whole = 7)) = true := by decide +kernel

theorem test_ack_channel_clears_a_capture :
    gives (.ackChannel 5) (withChannel { conditioning with mode := 4, capture := some .noTime, ready := true, ignored := 3 })
      (fun t => decide ((t.channel 5).capture = none ∧ (t.channel 5).ignored = 0 ∧ t.lpt.readData = [])) = true := by
  decide +kernel

/-! ### The Local Port and the resets -/

theorem test_host_silent_leaves_a_held_access :
    gives .hostSilent
      { inStep monitor2 accessWaits with
        settings := { configured with hostInterval := 6 }
        lpt := { Lpt.reset with configDigest := some 0x1234, countdown := 1, access := .held } }
      (fun t => t.active .hostSilent && decide (t.lpt.access = .held ∧ t.lpt.countdown = 0 ∧ t.grade = 2)) = true := by
  decide +kernel

theorem test_code_byte_ends_host_silent :
    gives (.requestCodeByte 34)
      { inStep monitor2 accessWaits with
        settings := { configured with hostInterval := 6 }, conditions := BitVec.twoPow 13 3 }
      (fun t => !t.active .hostSilent && decide (t.lpt.countdown = 6)) = true ∧
    gives (.requestCodeByte 0x2E) (inStep monitor2 accessWaits)
      (fun t => decide (t.lpt.answer = some .unknown)) = true := by decide +kernel

theorem test_code_bytes_name_their_requests :
    requestOf 0x10 [] = some .tipBegin ∧ requestOf 0x11 [0x01, 0x2C, 0, 7, 5] = some (.tipEnd 0x012C 7 5) ∧
    requestOf 0x10 [0] = none ∧ requestOf 0x2E [] = none := by decide +kernel

theorem test_port_returns_answer_data_then_zeros :
    let s := { State.reset with lpt := { Lpt.reset with answer := some .busy, readData := [9] } }
    s.portByte 0 = some 1 ∧ s.portByte 1 = some 9 ∧ s.portByte 2 = some 0 ∧ State.reset.portByte 0 = none := by
  decide +kernel

theorem test_access_begin_and_end :
    gives .accessBegin (inStep monitor2 tipStart)
      (fun t => decide (t.lpt.access = .asking ∧ t.lpt.accessClaim = true ∧
        t.lkc.queue = [.claim .access .access])) = true ∧
    gives .accessEnd
      { inStep monitor2 tipStart with lpt := { Lpt.reset with configDigest := some 0x1234, access := .held } }
      (fun t => decide (t.lpt.access = .idle ∧ t.lkc.queue = [.release .access])) = true := by decide +kernel

theorem test_sight_queues_the_sighting :
    gives (.sight 1500) (inStep tip4 tipStart)
      (fun t => decide (t.lpt.answer = some .taken ∧ t.lkc.queue = [.sighting 1500])) = true := by decide +kernel

theorem test_requests_before_the_strap_load_are_busy :
    gives .holdSet State.reset (fun t => decide (t.lpt.answer = some .busy ∧ t.lpt.holdRequest = false)) = true ∧
    gives (.strapLoad tip4) State.reset (fun t => t.strapValid && decide (t.station = 4 ∧ t.place = 3)) = true := by
  decide +kernel

theorem test_hold_set_and_clear :
    gives .holdSet (inStep tip4 tipStart) (fun t => t.holdFlag) = true ∧
    gives .holdClear (inStep tip4 tipStart) (fun t => !t.holdFlag) = true := by decide +kernel

/-- The station in OFFLINE. -/
def offline : State := { State.reset with stl := { word := tip4, loaded := true, ticks := 15 } }

theorem test_config_write_takes_the_low_bits :
    gives (.configWrite 7 0 0x130) offline (fun t => decide (t.settings.leaseLength = 0x30)) = true ∧
    gives (.configWrite 1 0 41) offline (fun t => decide (t.lpt.answer = some .badArg)) = true := by decide +kernel

theorem test_config_read_returns_flag_and_value :
    gives (.configRead 8 0) offline (fun t => decide (t.lpt.readData = [1, 0, 0, 0, 96])) = true ∧
    gives (.configRead 5 0) offline (fun t => decide (t.lpt.readData.head? = some 0)) = true := by decide +kernel

theorem test_config_done_answers_the_first_failing_check :
    gives .configDone { offline with stl := { offline.stl with word := 0 } }
      (fun t => decide (t.lpt.answer = some (.checkFailed 0))) = true ∧
    gives .configDone { offline with settings := { configured with levels := 7 } }
      (fun t => decide (t.lpt.answer = some (.checkFailed 12))) = true := by decide +kernel

theorem test_config_done_enters_listen :
    gives .configDone
      (setChannel 0 { Channel.reset with mode := 2, x := 5, binding := 8 } { offline with settings := configured })
      (fun t => t.notice .state && decide (t.lpt.answer = some .taken ∧ t.rsc.link = .listen ∧
        t.rsc.span = .unopened)) = true := by decide +kernel

theorem test_levels_are_taken_anew_after_config_done :
    gives (.debouncedLevelChange 5 true 1)
      (withChannel { conditioning with mode := 1, x := 3, level := some false, fresh := true })
      (fun t => !t.notice .channel && decide ((t.channel 5).level = some true ∧ (t.channel 5).ready = false)) = true ∧
    (Channel.modeSet { Channel.reset with mode := 1, level := some true }).fresh = true ∧
    (Channel.modeSet { conditioning with mode := 3 }).fresh = true := by decide +kernel

theorem test_edges_before_the_first_tick_are_not_taken :
    gives (.captureInEdge 5 true false) (withChannel { Channel.reset with mode := 4 })
      (fun t => decide ((t.channel 5).capture = none ∧ (t.channel 5).pin = true ∧ (t.channel 5).fresh = true)) = true ∧
    gives (.captureInEdge 5 true true) (withChannel { Channel.reset with mode := 4 })
      (fun t => decide ((t.channel 5).capture = some (.timed 5 0) ∧ (t.channel 5).fresh = false)) = true ∧
    gives (.countInEdge 5 true false) (withChannel { Channel.reset with mode := 3, x := 4 })
      (fun t => decide ((t.channel 5).remainder = 0)) = true := by decide +kernel

theorem test_each_tick_samples_the_pin :
    let s := withChannel { conditioning with mode := 1, x := 3, level := some false, pin := true, run := 1 }
    ((channelTick 5 s).channel 5).level = some false ∧ ((channelTick 5 s).channel 5).run = 2 ∧
    ((channelTick 5 (channelTick 5 s)).channel 5).level = some true ∧
    ((channelTick 5 (channelTick 5 s)).channel 5).ready = true := by decide +kernel

theorem test_restart_and_enter_config_keep_the_counters :
    gives .restart (inStep tip4 tipStart)
      (fun t => decide (t.rsc.link = .listen ∧ t.record = none ∧ t.rsc.roundNumber = 5 ∧ t.settings = configured)) = true ∧
    gives .enterConfig (drawing chute3 chuteOne 3 running)
      (fun t => decide (t.rsc.link = .offline ∧ t.dre.gate = .closing ∧ t.dre.unannounced = 0)) = true := by
  decide +kernel

theorem test_reset_line_forgets_configuration_and_record :
    gives .resetLine (inStep tip4 tipStart)
      (fun t => decide (t.rsc.link = .offline ∧ t.record = none ∧ t.settings = Settings.reset ∧
        t.rsc.roundNumber = 23 ∧ t.stl.loaded = false)) = true := by decide +kernel

theorem test_read_lot_layout :
    gives (.readLot 2) (inStep monitor2 afterTip)
      (fun t => decide (t.lpt.readData = [0, 19, 0x1C, 0, 45, 0x80, 15])) = true ∧
    gives (.readLot 3) (inStep monitor2 afterTip) (fun t => decide (t.lpt.answer = some .badArg)) = true := by
  decide +kernel

theorem test_read_claim_and_wait_layouts :
    gives (.readClaim 7) (inStep monitor2 accessWaits)
      (fun t => decide (t.lpt.readData = [0xB3, 48, 0, 0])) = true ∧
    gives (.readWait 1) (inStep monitor2 accessWaits)
      (fun t => decide (t.lpt.readData = [0x54, 0x10, 60, 1])) = true := by decide +kernel

theorem test_read_strap_conditions_and_notices :
    gives .readStrap (inStep tip4 tipStart)
      (fun t => decide (t.lpt.readData = [0x10, 0x62, 1])) = true ∧
    gives .readConditions stuck (fun t => decide (t.lpt.readData = [2, 0, 16])) = true ∧
    gives .readNotices { offline with lpt := { Lpt.reset with notices := 0x0200, mask := 0x0600 } }
      (fun t => t.irq && decide (t.lpt.readData = [2, 0, 6, 0])) = true := by decide +kernel

theorem test_clear_notices_and_set_mask :
    gives (.clearNotices 0x0200) { offline with lpt := { Lpt.reset with notices := 0x0600 } }
      (fun t => decide (t.lpt.notices = 0x0400)) = true ∧
    gives (.setMask 0x8001) offline (fun t => decide (t.lpt.mask = 0x8001)) = true := by decide +kernel

theorem test_read_status_is_75_bytes :
    gives .readStatus (inStep tip4 tipStart)
      (fun t => decide (t.lpt.readData.length = 75 ∧ t.lpt.readData.head? = some 0x80)) = true := by decide +kernel

/-! ### States and operands that meet the hypotheses of the statements

Each theorem is named after its statement and meets, clause by clause, all hypotheses of the clause together, at boundary values where a clause has a range. -/

/-- A freeze with image id 40. -/
def freezeOf (provider : Nat) (receivers : StationSet) (remaining : Nat) : Freeze :=
  { run := some { provider := provider, receivers := receivers, remaining := remaining }, imageId := 40 }

/-- The station with a tracker. -/
def tracking (f : Freeze) (s : State) : State := { s with agu := { s.agu with tracker := f } }

/-- A CATCHUP station with a receiver state, a view and a record. -/
def catchingUp (receiver : ReceiverState) (view : Freeze) (r : Option Record) : State :=
  { atWork tip5 .catchup r with agu := { Agu.reset with receiver := receiver, view := view } }

/-- The station sends a frame that stands at the head of its queue. -/
def sends (f : EventFrame) (s : State) : State :=
  { s with lkc := { s.lkc with queue := [f], sending := some (.event f) } }

/-- A record with one held LEVEL row and `n` lots. -/
def crowded (n : Nat) : Record :=
  { freeRecord (columnOf ((List.range n).map fun i => shutLot (100 + i) .tipped 1 2 10) 65535) with
    table := { ClaimTable.free with level1 := some (grantTo 3 .tip 60) } }

/-- The pass of the first worked sequence at the MONITOR station. -/
def pass : State := inStep monitor2 tipStart

theorem witness_RemovalWalkTakesOldestFirst :
    0 < (columnOf twoLots 19).total ∧ 599 < (columnOf twoLots 19).total := by decide +kernel

theorem witness_AdditionsAndAppendsToTheColumn :
    (columnOf twoLots 19).lots[1]? = some (shutLot 18 .tipped 2 3 180) ∧ 180 + 65355 ≤ 65535 ∧ 65535 < 180 + 65356 ∧
    (crowded 32).column.lots.length ≤ 32 ∧ (crowded 32).column.nextLot ≤ 65535 ∧ (columnOf [] 0).lots = [] ∧
    (columnOf twoLots 19).lots = [shutLot 17 .tipped 1 2 420] ++ [shutLot 18 .tipped 2 3 180] := by decide +kernel

theorem witness_LotInFrameOnTheRecord_holder :
    pass.delivers (.lotInFrame 4 3 1 0 6) 4 0 ∧ pass.rsc.link = .inStep ∧ pass.frozen = false ∧
    pass.record = some tipStart ∧ levelRow (3 : Byte).toNat = some .level3 ∧ 3 ≤ pass.settings.levelCount ∧
    1 ≤ (1 : BitVec 12).toNat ∧ (6 : Byte).toNat ≤ 6 ∧ tipStart.table.holds 4 .level3 = true :=
  ⟨.inl (by decide +kernel), by decide +kernel⟩

theorem witness_LotInFrameOnTheRecord_no_holder :
    ∀ n ∈ [30, 31], (inStep monitor2 (crowded n)).delivers (.lotInFrame 4 4 4095 1 0) 4 0 ∧
    (inStep monitor2 (crowded n)).rsc.link = .inStep ∧ (inStep monitor2 (crowded n)).frozen = false ∧
    (inStep monitor2 (crowded n)).record = some (crowded n) ∧ levelRow (4 : Byte).toNat = some .level4 ∧
    4 ≤ (inStep monitor2 (crowded n)).settings.levelCount ∧ (crowded n).table.holds 4 .level4 = false ∧
    (if n = 30 then (crowded n).column.lots.length + (crowded n).table.heldLevels ≤ 31
     else 32 ≤ (crowded n).column.lots.length + (crowded n).table.heldLevels) := by
  unfold State.delivers; decide +kernel

theorem witness_BrokenFrameOnTheRecord_column :
    (columnOf twoLots 19).target 3 = none ∧ (crowded 30).column.lots.length + (crowded 30).table.heldLevels ≤ 31 ∧
    beforeBreak.column.target 3 = some 2 ∧ beforeBreak.column.lots[2]? = some (openLot 19 3 4 45 15) ∧
    afterTip.column.target 3 = some 2 ∧ 2 + 1 = afterTip.column.lots.length := by decide +kernel

theorem witness_BrokenFrameOnTheRecord_frame :
    (inStep monitor2 beforeBreak).delivers (.brokenFrame 7 3 true 18) 7 0 ∧
    (inStep monitor2 beforeBreak).rsc.link = .inStep ∧ (inStep monitor2 beforeBreak).frozen = false ∧
    (inStep monitor2 beforeBreak).record = some beforeBreak ∧ levelRow (3 : Byte).toNat = some .level3 ∧
    3 ≤ (inStep monitor2 beforeBreak).settings.levelCount := ⟨.inl (by decide +kernel), by decide +kernel⟩

theorem witness_DrawFrameOnTheRecord :
    (pass.delivers (.drawFrame 3 2 600) 3 0 ∧ pass.delivers (.drawFrame 3 1 601) 3 0 ∧
      pass.delivers (.drawFrame 3 1 1) 3 0 ∧ pass.delivers (.drawFrame 3 1 4095) 3 0) ∧ pass.rsc.link = .inStep ∧
    pass.frozen = false ∧ pass.record = some tipStart ∧ 1 ≤ (2 : Byte).toNat ∧ (2 : Byte).toNat ≤ 2 ∧
    1 ≤ (1 : Word16).toNat ∧ (4095 : Word16).toNat ≤ 4095 ∧ (600 : Word16).toNat ≤ tipStart.column.total ∧
    tipStart.column.total < (601 : Word16).toNat :=
  ⟨⟨.inl (by decide +kernel), .inl (by decide +kernel), .inl (by decide +kernel), .inl (by decide +kernel)⟩,
    by decide +kernel⟩

/-- The record of the first worked sequence, HUNG. -/
def hungRecord : Record :=
  { tipStart with column := { tipStart.column with hung := some { chute := 2, stamp := 5, total := 600 } } }

theorem witness_SightingFrameOnTheRecord_hung_and_normal :
    (inStep monitor2 hungRecord).delivers (.sightingFrame 4 0) 4 0 ∧ (inStep monitor2 hungRecord).rsc.link = .inStep ∧
    (inStep monitor2 hungRecord).frozen = false ∧ (inStep monitor2 hungRecord).record = some hungRecord ∧
    hungRecord.column.hung ≠ none := ⟨.inl (by decide +kernel), by decide +kernel⟩

theorem witness_SightingFrameOnTheRecord_excess_and_shortfall :
    (pass.delivers (.sightingFrame 4 600) 4 0 ∧ pass.delivers (.sightingFrame 4 601) 4 0) ∧
    pass.rsc.link = .inStep ∧ pass.frozen = false ∧ pass.record = some tipStart ∧ tipStart.column.hung = none ∧
    (600 : Word16).toNat ≤ tipStart.column.total ∧ tipStart.column.total < (601 : Word16).toNat ∧
    tipStart.column.lots ≠ [] := ⟨⟨.inl (by decide +kernel), .inl (by decide +kernel)⟩, by decide +kernel⟩

theorem witness_SightingFrameOnTheRecord_own_on_an_empty_column :
    (sends (.sighting 1) (inStep monitor2 (freeRecord (columnOf [] 0)))).delivers (.sightingFrame 2 1) 2 0 ∧
    (columnOf [] 0).total < (1 : Word16).toNat ∧ (columnOf [] 0).lots = [] ∧ (columnOf [] 0).hung = none ∧
    (sends (.sighting 1) (inStep monitor2 (freeRecord (columnOf [] 0)))).rsc.link = .inStep :=
  ⟨.inr (by decide +kernel), by decide +kernel⟩

theorem witness_HangupAndUnhangFramesOnTheRecord_hangup :
    (pass.delivers (.hangupFrame 11 2) 11 0 ∧ (inStep monitor2 hungRecord).delivers (.hangupFrame 11 2) 11 0) ∧
    pass.rsc.link = .inStep ∧ pass.record = some tipStart ∧ tipStart.column.hung = none ∧
    (inStep monitor2 hungRecord).rsc.link = .inStep ∧ (inStep monitor2 hungRecord).record = some hungRecord ∧
    hungRecord.column.hung ≠ none ∧ 1 ≤ (2 : Byte).toNat ∧ (2 : Byte).toNat ≤ 2 :=
  ⟨⟨.inl (by decide +kernel), .inl (by decide +kernel)⟩, by decide +kernel⟩

/-- A chute drawing its first order, gate open. -/
def drawing3 : State := drawing chute3 chuteOne 3 running

theorem witness_HangupAndUnhangFramesOnTheRecord_engine :
    drawing3.delivers (.hangupFrame 11 1) 11 0 ∧ drawing3.rsc.link = .inStep ∧ drawing3.record ≠ none ∧
    drawing3.role = .chute ∧ 1 ≤ (1 : Byte).toNat ∧ (1 : Byte).toNat ≤ 2 ∧ drawing3.dre.state ≠ .hung ∧
    drawing3.dre.state ≠ .faulted ∧ drawing3.dre.current ≠ none ∧
    (drawing3.recordHolds drawing3.station .chute1 = true) := ⟨.inl (by decide +kernel), by decide +kernel⟩

theorem witness_HangupAndUnhangFramesOnTheRecord_unhang :
    (pass.delivers (.unhangFrame 3 1) 3 0 ∧ (inStep monitor2 hungRecord).delivers (.unhangFrame 3 1) 3 0) ∧
    pass.frozen = false ∧ (inStep monitor2 hungRecord).frozen = false ∧ tipStart.column.hung = none ∧
    hungRecord.column.hung ≠ none ∧ 1 ≤ (1 : Byte).toNat ∧ (1 : Byte).toNat ≤ 2 :=
  ⟨⟨.inl (by decide +kernel), .inl (by decide +kernel)⟩, by decide +kernel⟩

/-- A CHUTE station under a HUNG column, its engine HUNG. -/
def hungChute (own : Bool) (conditions : BitVec 13) : State :=
  { inStep chute3 hungRecord with dre := { Dre.reset with state := .hung, ownHangup := own }, conditions := conditions }

theorem witness_HangupAndUnhangFramesOnTheRecord_hung_engine :
    (∀ own ∈ [true, false], ∀ c ∈ [(0 : BitVec 13), BitVec.twoPow 13 4, BitVec.twoPow 13 0],
      (hungChute own c).delivers (.unhangFrame 11 2) 11 0 ∧ (hungChute own c).rsc.link = .inStep ∧
      (hungChute own c).frozen = false ∧ (hungChute own c).record = some hungRecord ∧
      (hungChute own c).dre.state = .hung ∧ (hungChute own c).dre.ownHangup = own) ∧
    (hungChute false 0).grade < 2 ∧ 2 ≤ (hungChute false (BitVec.twoPow 13 4)).gradeLessWatch ∧
    (∃ c : BitVec 13, c = BitVec.twoPow 13 (conditionBit .watch) ∧ 2 ≤ (hungChute false c).grade ∧
      (hungChute false c).gradeLessWatch < 2) ∧ hungRecord.column.hung ≠ none :=
  ⟨by unfold State.delivers; decide +kernel, by decide +kernel, by decide +kernel,
    ⟨_, rfl, by decide +kernel⟩, by decide +kernel⟩

theorem witness_HangupAndUnhangFramesOnTheRecord_activities :
    (tipping false).delivers (.hangupFrame 11 2) 11 0 ∧ (tipping false).rsc.link = .inStep ∧
    (tipping false).tbs.state = .granted ∧
    { tipping false with lpt := { Lpt.reset with access := .held } }.lpt.access = .held :=
  ⟨.inl (by decide +kernel), by decide +kernel⟩

/-- The pass at a frozen station. -/
def frozenPass : State := tracking (freezeOf 2 0x010 95) pass

theorem witness_IgnoredColumnFrames_ranges :
    (pass.delivers (.lotInFrame 4 7 1 0 0) 4 0 ∧ pass.delivers (.brokenFrame 7 5 true 1) 7 0 ∧
      pass.delivers (.drawFrame 3 1 4096) 3 0 ∧ pass.delivers (.unhangFrame 3 3) 3 0 ∧
      pass.delivers (.hangupFrame 3 0) 3 0) ∧
    6 < (7 : Byte).toNat ∧ pass.settings.levelCount < (5 : Byte).toNat ∧ 4095 < (4096 : Word16).toNat ∧
    2 < (3 : Byte).toNat ∧ pass.rsc.link ≠ .catchup :=
  ⟨⟨.inl (by decide +kernel), .inl (by decide +kernel), .inl (by decide +kernel), .inl (by decide +kernel),
    .inl (by decide +kernel)⟩, by decide +kernel⟩

theorem witness_IgnoredColumnFrames_frozen_and_outside_in_step :
    (frozenPass.delivers (.sightingFrame 4 9) 4 0 ∧ (atWork tip5 .joining none).delivers (.hangupFrame 3 1) 3 0) ∧
    frozenPass.frozen = true ∧ (atWork tip5 .joining none).rsc.link ≠ .catchup ∧
    (atWork tip5 .joining none).rsc.link ≠ .inStep :=
  ⟨⟨.inl (by decide +kernel), .inl (by decide +kernel)⟩, by decide +kernel⟩

theorem witness_FoundingColumn :
    alone.rsc.link = .joining ∧ 1 ≤ alone.rsc.joiningCount ∧
    State.qualifyingPeers { alone with rsc := { alone.rsc with lastHeard := alone.rsc.heard } } = [] ∧
    alone.lowestPresent = true := by decide +kernel

theorem witness_GrantConditions :
    levelRow 6 = some .level6 ∧ levelRow 1 = some .level1 ∧
    { beforeBreak with column := { beforeBreak.column with lots := [shutLot 1 .tipped 1 1 740] } }.choked configured 1
      = true ∧ 1 ≤ configured.tipReservation.toNat := by decide +kernel

theorem witness_ClaimFrameOnTheRecord_granted_waiting_refused :
    (pass.delivers (.claimFrame 7 4 2) 7 0 ∧ pass.delivers (.claimFrame 7 3 2) 7 0 ∧
      pass.delivers (.claimFrame 9 9 4) 9 0 ∧ pass.delivers (.claimFrame 5 7 5) 5 0) ∧
    pass.rsc.link = .inStep ∧ pass.record = some tipStart ∧ pass.frozen = false ∧
    rowOfCode 4 = some .level4 ∧ rowOfCode 9 = some .access ∧ rowOfCode 7 = some .chute1 ∧
    purposeOfCode 2 = some .brk ∧ purposeOfCode 4 = some .access ∧ purposeOfCode 5 = none ∧
    tipStart.claimOutcome configured false 7 .level4 .brk = .granted ∧
    tipStart.claimOutcome configured false 7 .level3 .brk = .waiting ∧
    tipStart.claimOutcome configured false 9 .access .access = .refused ∧
    claimMatches configured .level5 .tip = false ∧ frozenPass.frozen = true :=
  ⟨⟨.inl (by decide +kernel), .inl (by decide +kernel), .inl (by decide +kernel), .inl (by decide +kernel)⟩,
    by decide +kernel⟩

/-- Station 5 with its CLAIM on the line. -/
def claiming (r : Record) : State :=
  { sends (.claim .level4 .tip) (inStep tip5 r) with tbs := { Tbs.reset with state := .asking, claimInQueue := true } }

theorem witness_ClaimFrameOnTheRecord_own :
    (claiming tipStart).delivers (.claimFrame 5 4 1) 5 0 ∧ (claiming tipStart).rsc.link = .inStep ∧
    (claiming tipStart).record = some tipStart ∧ (5 : BitVec 4).toNat = (claiming tipStart).station ∧
    isLevel .level4 = true ∧ (claiming tipStart).tbs.state = .asking ∧
    tipStart.claimOutcome configured false 5 .level4 .tip = .granted := ⟨.inr (by decide +kernel), by decide +kernel⟩

/-- A CHUTE station that asks for its row, with its CLAIM on the line and a row-3 holder that may stand in the way. -/
def askingChute (o : Order) (total : Nat) (others : ClaimTable) : State :=
  { sends (.claim .chute1 .draw)
      (inStep chute3 { freeRecord (columnOf [shutLot 1 .tipped 1 1 total] 2) with table := others }) with
    dre := { Dre.reset with state := .asking, current := some o, claimInQueue := true, queued := 100 } }

/-- The table with CHUTE-1 held by another station, and with CHUTE-1 held by the station itself. -/
def taken1 (holder : Nat) : ClaimTable := chuteOne (grantTo holder .draw 0)

theorem witness_ClaimFrameOnTheRecord_engine :
    (∀ s ∈ [askingChute (.draw 40 0) 760 .free, askingChute (.draw 40 0) 400 .free, askingChute (.dwell 5 5) 760 .free,
        askingChute (.draw 40 0) 760 (taken1 11), askingChute (.draw 40 0) 760 (taken1 3)],
      s.arrival (.claimFrame 3 7 3) 3 0 = .own ∧ s.rsc.link = .inStep ∧ s.frozen = false ∧ s.station = 3 ∧
      s.ownRow = some .chute1 ∧ s.dre.state = .asking ∧ s.dre.next = none ∧ s.dre.current ≠ none) ∧
    (askingChute (.draw 40 0) 760 .free).cushionFails = false ∧
    (askingChute (.draw 40 0) 400 .free).cushionFails = true ∧
    (∀ s ∈ [askingChute (.draw 40 0) 760 .free, askingChute (.draw 40 0) 400 .free, askingChute (.dwell 5 5) 760 .free],
      (s.record.map fun r => r.claimOutcome configured false 3 .chute1 .draw) = some .granted) ∧
    ((askingChute (.draw 40 0) 760 (taken1 11)).record.map fun r => r.claimOutcome configured false 3 .chute1 .draw) =
      some .waiting ∧
    ((askingChute (.draw 40 0) 760 (taken1 3)).record.map fun r => r.claimOutcome configured false 3 .chute1 .draw) =
      some .refused := by decide +kernel

/-- The MONITOR station that asks for access, with its CLAIM on the line. -/
def askingAccess (r : Record) : State :=
  { sends (.claim .access .access) (inStep monitor2 r) with
    lpt := { Lpt.reset with configDigest := some 0x1234, access := .asking, accessClaim := true } }

theorem witness_ClaimFrameOnTheRecord_access_and_no_row :
    (∀ r ∈ [freeRecord (columnOf twoLots 19), tipStart], (askingAccess r).delivers (.claimFrame 2 9 4) 2 0 ∧
      (askingAccess r).lpt.access = .asking ∧ (askingAccess r).station = 2) ∧
    (freeRecord (columnOf twoLots 19)).claimOutcome configured false 2 .access .access = .granted ∧
    tipStart.claimOutcome configured false 2 .access .access = .waiting ∧
    pass.delivers (.claimFrame 5 10 1) 5 0 ∧ pass.delivers (.claimFrame 5 0 1) 5 0 ∧
    rowOfCode (10 : Byte).toNat = none ∧ rowOfCode (0 : Byte).toNat = none := by
  unfold State.delivers; decide +kernel

/-- A row that another station holds, and an entry that waits for it to be released. -/
def behind (table : ClaimTable) (e : WaitEntry) : Record :=
  { freeRecord (columnOf twoLots 19) with table := table, queue := [e] }

/-- The ACCESS row held by station 2, which keeps every other row waiting. -/
def accessHeld : ClaimTable := { ClaimTable.free with access := some (grantTo 2 .access 0) }

/-- Station 5 in a session whose own CLAIM is queued or applied, with an entry of `age` rounds behind access: a stray one while the CLAIM is queued. -/
def askingTip (queued : Bool) (age : Nat) : State :=
  { inStep tip5 (behind accessHeld (waiting 5 .level4 .tip age 60)) with
    lkc := { Lkc.reset with queue := if queued then [.claim .level4 .tip] else [] }
    tbs := { Tbs.reset with state := .asking, claimInQueue := queued } }

/-- Station 3 with an order in the same place. -/
def askingDraw (queued : Bool) : State :=
  { inStep chute3 (behind accessHeld (waiting 3 .chute1 .draw 0 0)) with
    lkc := { Lkc.reset with queue := if queued then [.claim .chute1 .draw] else [] }
    dre := { Dre.reset with state := .asking, current := some (.draw 40 0), claimInQueue := queued } }

/-- Station 2 with an access request behind a chute. -/
def askingEntry (queued : Bool) : State :=
  { inStep monitor2 (behind (taken1 11) (waiting 2 .access .access 0 0)) with
    lkc := { Lkc.reset with queue := if queued then [.claim .access .access] else [] }
    lpt := { Lpt.reset with configDigest := some 0x1234, access := .asking, accessClaim := queued } }

/-- The own CLAIM of `askingTip` read back. -/
def ownClaim (t : State) : State := { t with lkc := { t.lkc with sending := some (.event (.claim .level4 .tip)) } }

theorem test_a_stray_grant_moves_no_new_session_and_its_own_claim_ends_it :
    gives (.releaseFrame 2 9) (askingTip true 0) (fun t =>
      t.recordHolds 5 .level4 && decide (t.tbs = (askingTip true 0).tbs) &&
        gives (.claimFrame 5 4 1) (ownClaim t) fun u => decide (u.tbs.state = .idle ∧ u.tbs.lastResult = .refused)) =
      true ∧
    gives (.releaseFrame 2 9) (askingTip false 0) (fun t => decide (t.tbs.state = .granted)) = true := by
  decide +kernel

theorem test_a_stray_grant_moves_no_order_and_no_access_request :
    gives (.releaseFrame 2 9) (askingDraw true) (fun t =>
      t.recordHolds 3 .chute1 && decide (t.dre.state = .asking ∧ t.dre.current = some (.draw 40 0))) = true ∧
    gives (.releaseFrame 2 9) (askingDraw false) (fun t => decide (t.dre.state = .running)) = true ∧
    gives (.releaseFrame 11 7) (askingEntry true) (fun t =>
      t.recordHolds 2 .access && decide (t.lpt.access = .asking)) = true ∧
    gives (.releaseFrame 11 7) (askingEntry false) (fun t => decide (t.lpt.access = .held)) = true := by decide +kernel

theorem witness_ClaimFrameOnTheRecord_stray_claim :
    let s := { claiming tipStart with
      lkc := { (claiming tipStart).lkc with queue := [.claim .level4 .tip, .claim .level4 .tip] } }
    s.delivers (.claimFrame 5 4 1) 5 0 ∧ s.tbs.state = .asking ∧
    tipStart.claimOutcome configured false 5 .level4 .tip = .granted ∧
    gives (.claimFrame 5 4 1) s (fun t => t.tbs.claimInQueue) = true := ⟨.inr (by decide +kernel), by decide +kernel⟩

theorem witness_ReleaseAndWithdrawFramesOnTheRecord_own_entry :
    (∀ queued ∈ [true, false], ∀ x ∈ [(askingTip queued 0, Instr.releaseFrame 2 9, (2 : BitVec 4), Row.access, 5, Row.level4),
        (askingDraw queued, .releaseFrame 2 9, 2, .access, 3, .chute1),
        (askingEntry queued, .releaseFrame 11 7, 11, .chute1, 2, .access)],
      x.1.arrival x.2.1 x.2.2.1.toNat 0 = .received ∧ x.1.rsc.link = .inStep ∧ x.1.frozen = false ∧
      x.1.rsc.paused = false ∧ x.1.station = x.2.2.2.2.1 ∧
      (x.1.record.any fun r => r.table.holds x.2.2.1.toNat x.2.2.2.1 &&
        decide (((Record.scan x.1.settings { r with table := r.table.put x.2.2.2.1 none }).granted.map fun e =>
          (e.station, e.row)) = [(x.2.2.2.2.1, x.2.2.2.2.2)])) = true) := by decide +kernel

theorem witness_ReleaseAndWithdrawFramesOnTheRecord_acting :
    (inStep tip4 accessWaits).rsc.link = .inStep ∧ (inStep tip4 accessWaits).record = some accessWaits ∧
    ((inStep tip4 accessWaits).delivers (.releaseFrame 11 7) 11 0 ∧
      (inStep tip4 accessWaits).delivers (.withdrawFrame 5 4) 5 0 ∧
      (inStep tip4 accessWaits).delivers (.withdrawFrame 11 7) 11 0) ∧
    (inStep tip4 accessWaits).frozen = false ∧ rowOfCode 7 = some .chute1 ∧ rowOfCode 4 = some .level4 ∧
    rowLevel .level4 ≤ (inStep tip4 accessWaits).settings.levelCount ∧ accessWaits.table.holds 11 .chute1 = true ∧
    accessWaits.waitsFor 5 .level4 = true ∧ accessWaits.waitsFor 11 .chute1 = false :=
  ⟨by decide +kernel, by decide +kernel,
    ⟨.inl (by decide +kernel), .inl (by decide +kernel), .inl (by decide +kernel)⟩, by decide +kernel⟩

theorem witness_ReleaseAndWithdrawFramesOnTheRecord_ignored :
    ((inStep tip4 accessWaits).delivers (.releaseFrame 11 10) 11 0 ∧
      (inStep tip4 accessWaits).delivers (.withdrawFrame 9 5) 9 0) ∧
    rowOfCode 10 = none ∧ rowOfCode 5 = some .level5 ∧
    (inStep tip4 accessWaits).settings.levelCount < rowLevel .level5 ∧ accessWaits.table.holds 9 .level5 = false ∧
    frozenPass.frozen = true := ⟨⟨.inl (by decide +kernel), .inl (by decide +kernel)⟩, by decide +kernel⟩

theorem witness_OneScanIsEnough :
    let r := { accessWaits with table := ClaimTable.free }
    (r.scan configured).granted = [waiting 2 .access .access 1 0] ∧
    (r.scanned configured).queue = [] ++ waiting 5 .level4 .tip 1 60 :: [] ∧
    accessWaits.table.get .chute1 ≠ none := by decide +kernel

theorem witness_StatusFrameRenewsOrReconciles :
    ((inStep tip4 accessWaits).delivers (.statusFrame 11 { someFields with holding := 0x40 } 4095) 11 4095 ∧
      (inStep tip4 accessWaits).delivers (.statusFrame 11 someFields 0) 11 0 ∧
      (inStep tip4 accessWaits).delivers (.statusFrame 9 { someFields with link := 3 } 0) 9 0) ∧
    (inStep tip4 accessWaits).rsc.link = .inStep ∧ (inStep tip4 accessWaits).record = some accessWaits ∧
    accessWaits.table.rowOf 11 = some .chute1 ∧ accessWaits.table.rowOf 9 = none ∧ someFields.link.toNat = 4 ∧
    someFields.config = (inStep tip4 accessWaits).ownDigest ∧ (inStep tip4 accessWaits).frozen = false ∧
    (0x40 : BitVec 9).getLsbD (rowCode .chute1 - 1) = true ∧ someFields.holding.getLsbD (rowCode .chute1 - 1) = false :=
  ⟨⟨.inl (by decide +kernel), .inl (by decide +kernel), .inl (by decide +kernel)⟩, by decide +kernel⟩

theorem witness_StatusFrameRenewsOrReconciles_round :
    ((inStep tip4 accessWaits).delivers (.statusFrame 11 someFields 240) 11 240 ∧
      (inStep tip4 accessWaits).delivers (.statusFrame 11 someFields 279) 11 279 ∧
      (inStep tip4 accessWaits).delivers (.statusFrame 11 someFields 280) 11 280 ∧
      (inStep tip4 accessWaits).delivers (.statusFrame 12 someFields 239) 12 239 ∧
      (atWork tip5 .listen none).delivers (.statusFrame 11 someFields 0) 11 0) ∧
    (inStep tip4 accessWaits).rsc.span = .inRound ∧
    { (atWork tip5 .listen none).rsc with span := .unopened }.span = .unopened ∧
    (inStep tip4 accessWaits).settings.slotOf 11 =
      some (6, { kind := some .status, mark := 240, owner := 11, period := 1, phase := 0 }) ∧
    (inStep tip4 accessWaits).settings.slotOf 12 = none ∧ (inStep tip4 accessWaits).rsc.roundTime = 0 := by
  unfold State.delivers; decide +kernel

theorem witness_StatusFrameRenewsOrReconciles_own :
    (sends (.sighting 1) (inStep chute11 accessWaits)).station = 11 ∧
    (let s := inStep chute11 accessWaits
     let s := { s with lkc := { s.lkc with sending := some (.status { someFields with holding := 0 }) } }
     s.arrival (.statusFrame 11 { someFields with holding := 0 } 240) 11 240 = .own ∧ s.frozen = false ∧
     someFields.config = s.ownDigest ∧ accessWaits.table.rowOf 11 = some .chute1) := by decide +kernel

theorem witness_RoundStartClaimWork_opening :
    (pass.delivers (.openingFrame 3 23 0 true pass.ownDigest) 3 0 ∧
      pass.delivers (.openingFrame 3 23 0 false pass.ownDigest) 3 0 ∧
      frozenPass.delivers (.openingFrame 3 0 1 false frozenPass.ownDigest) 3 0) ∧
    (23 : Byte).toNat < 24 ∧ pass.rsc.link = .inStep ∧ pass.record = some tipStart ∧ pass.agu.tracker.run = none ∧
    frozenPass.rsc.link = .inStep ∧ (frozenPass.agu.tracker.run.map FreezeRun.remaining) = some 95 ∧
    ((tracking (freezeOf 2 0x010 1) pass).agu.tracker.run.map FreezeRun.remaining) = some 1 :=
  ⟨⟨.inl (by decide +kernel), .inl (by decide +kernel), .inl (by decide +kernel)⟩, by decide +kernel⟩

/-- A held row at its last lease and an entry at the wait limit. -/
def lastLease : Record :=
  { accessWaits with
    table := { ClaimTable.free with chute1 := some { grantTo 11 .draw 0 with lease := 1 } }
    queue := [waiting 2 .access .access 96 0] }

theorem witness_RoundStartClaimWork_own_row_and_entry :
    (inStep chute11 lastLease).delivers (.openingFrame 3 23 0 false 0x1234) 3 0 ∧
    0x1234 = (inStep chute11 lastLease).ownDigest ∧ (inStep chute11 lastLease).rsc.link = .inStep ∧
    (inStep chute11 lastLease).record = some lastLease ∧ (inStep chute11 lastLease).agu.tracker.run = none ∧
    (inStep chute11 lastLease).settings.hostInterval = 0 ∧ (inStep chute11 lastLease).lpt.countdown ≠ 1 ∧
    lastLease.table.get .chute1 = some { grantTo 11 .draw 0 with lease := 1 } ∧
    (grantTo 11 .draw 0).holder = (inStep chute11 lastLease).station ∧
    (inStep chute11 lastLease).rsc.paused = false ∧ (inStep chute11 lastLease).frozen = false ∧
    (inStep monitor2 lastLease).station = (2 : BitVec 4).toNat := ⟨.inl (by decide +kernel), by decide +kernel⟩

theorem witness_RoundStartClaimWork_stray_entry :
    (∀ queued ∈ [true, false], (askingTip queued 96).record = some (behind accessHeld (waiting 5 .level4 .tip 96 60)) ∧
      (askingTip queued 96).rsc.link = .inStep ∧ (askingTip queued 96).rsc.paused = false ∧
      (askingTip queued 96).frozen = false ∧ (askingTip queued 96).station = (5 : BitVec 4).toNat ∧
      (askingTip queued 96).settings.waitLimit.toNat ≤ 96) ∧
    gives (.waitLimitRemoval 5) (askingTip true 96) (fun t => decide (t.tbs.state = .asking)) = true ∧
    gives (.waitLimitRemoval 5) (askingTip false 96) (fun t => decide (t.tbs.lastResult = .refused)) = true := by
  decide +kernel

theorem witness_RoundStartClaimWork_parts :
    (inStep monitor2 lastLease).record = some lastLease ∧ (inStep monitor2 lastLease).rsc.link = .inStep ∧
    (inStep monitor2 lastLease).rsc.paused = false ∧ (inStep monitor2 lastLease).frozen = false ∧
    lastLease.table.get .chute1 = some { grantTo 11 .draw 0 with lease := 1 } ∧
    waiting 2 .access .access 96 0 ∈ lastLease.queue ∧ (2 : BitVec 4).toNat = (inStep monitor2 lastLease).station ∧
    (inStep monitor2 lastLease).settings.waitLimit.toNat ≤ (waiting 2 .access .access 96 0).age := by decide +kernel

/-- The longest body: kind, sender and length at their field's ends. -/
def widest : RawFrame := { kind := 15, sender := 15, payload := List.replicate 248 true }

theorem witness_FramesOnTheLineAreJudgedInOrder :
    widest.kind ≤ 15 ∧ widest.sender ≤ 15 ∧ 31 ≤ 31 ∧ widest.payload.length = 8 * 31 := by decide +kernel

theorem witness_FramesOnTheLineAreJudgedInOrder_coding :
    (∃ after, stuff true 0 (false :: (widest.body ++ bitsOf (0xFFFF : Word16))) =
      [false] ++ List.replicate 6 true ++ after) ∧
    1 + 7 ≤ (stuff true 0 (false :: (widest.body ++ bitsOf (0xFFFF : Word16)))).length :=
  ⟨⟨(stuff true 0 (false :: (widest.body ++ bitsOf (0xFFFF : Word16)))).drop 7, by decide +kernel⟩, by decide +kernel⟩

theorem witness_FrameCommandsRoundTripOverTheLine :
    Instr.wellFormed (.hangupFrame 12 255) = true ∧
    frameOf (.hangupFrame 12 255) = some { kind := 1, sender := 12, payload := List.replicate 8 true } ∧ 12 ≠ 4 ∧
    Instr.wellFormed (.statusFrame 1 someFields 4095) = true ∧ (frameOf (.statusFrame 1 someFields 4095)).isSome = true ∧
    pass.lkc.sending = none ∧ claimOnTheLine.sentCommand 0 = some (.claimFrame 2 9 4) ∧
    ((frameOf (.claimFrame 2 9 4)).map fun f => (f.line[0]?, f.line[1]?)) = some (some false, some true) ∧
    ((frameOf (.claimFrame 2 9 4)).any fun f => decide (f.line.length ≤ 307)) = true := by decide +kernel

/-- A CHUTE station with unannounced tonnes and a queue. -/
def announcing (queue : List EventFrame) (sending : Option Sending) : State :=
  { drawing3 with
    dre := { running with unannounced := 4096 }, lkc := { Lkc.reset with queue := queue, sending := sending } }

theorem witness_DrawOffersAreCoalesced :
    1 ≤ (announcing [] none).dre.unannounced ∧ (announcing [] none).rsc.link ≠ .halted ∧
    queuedDraw (announcing [.sighting 1, .draw 1 4095] none).lkc.queue = some 4095 ∧
    (announcing [.sighting 1, .draw 1 4095] none).sendingDraw = false ∧
    (announcing [.draw 1 35] (some (.event (.draw 1 35)))).sendingDraw = true ∧
    queuedDraw (List.replicate 7 (.sighting 1)) = none ∧ eventCount (List.replicate 7 (.sighting 1)) < 8 ∧
    queuedDraw (List.replicate 8 (.sighting 1)) = none ∧ 8 ≤ eventCount (List.replicate 8 (.sighting 1)) := by
  decide +kernel

theorem witness_OwnEventFrameApplied :
    ∀ f ∈ [EventFrame.draw 1 35, .hangup 1], 1 ≤ (sends f drawing3).station ∧ (sends f drawing3).station ≤ 12 ∧
    (sends f drawing3).rsc.link = .inStep ∧ (sends f drawing3).lkc.sending = some (.event f) ∧
    (sends f drawing3).lkc.queue.head? = some f ∧
    (announcing [.sighting 1, f] (some (.event f))).lkc.queue.head? ≠ some f ∧
    (announcing [.sighting 1, f] (some (.event f))).lkc.sending = some (.event f) := by decide +kernel

/-- A session in ENDING with its closing frame on the line and `ahead` frames of its kind before it. -/
def closing (c : Closing) (f : EventFrame) (ahead : Nat) (s : State) : State :=
  { sends f s with tbs := { Tbs.reset with state := .ending, closing := c, ahead := ahead } }

theorem witness_OwnEventFrameApplied_sessions_and_release :
    (∀ ahead ∈ [0, 1], ∀ x ∈ [(Closing.lotIn, EventFrame.lotIn 4 9 0 0), (.release, .release .level4),
        (.withdraw, .withdraw .level4)],
      (closing x.1 x.2 ahead (inStep tip5 tipStart)).lkc.sending = some (.event x.2) ∧
      (closing x.1 x.2 ahead (inStep tip5 tipStart)).tbs.state = .ending ∧
      (closing x.1 x.2 ahead (inStep tip5 tipStart)).tbs.closing = x.1 ∧
      (closing x.1 x.2 ahead (inStep tip5 tipStart)).tbs.ahead = ahead) ∧
    (inStep tip5 tipStart).ownRow = some .level4 ∧ isLevel .level4 = true ∧ (inStep tip5 tipStart).rsc.link = .inStep ∧
    (closing .broken (.broken 3 9 true) 0 (inStep breaker7 beforeBreak)).tbs.closing = .broken ∧
    (sends (.release .chute1) drawing3).lkc.sending = some (.event (.release .chute1)) ∧
    drawing3.rsc.link = .inStep := by decide +kernel

theorem test_a_session_ends_with_its_own_closing_frame :
    gives (.releaseFrame 5 4) (closing .release (.release .level4) 1 (inStep tip5 tipStart))
      (fun t => decide (t.tbs.state = .ending ∧ t.tbs.ahead = 0)) = true ∧
    gives (.releaseFrame 5 4) (closing .release (.release .level4) 0 (inStep tip5 tipStart))
      (fun t => decide (t.tbs.state = .idle ∧ t.tbs.lastResult = .ended)) = true := by decide +kernel

theorem witness_OwnEventFrameApplied_stray_claim :
    (sends (.release .chute1) (askingChute (.draw 40 0) 760 .free)).dre.state = .asking ∧
    ({ freeRecord (columnOf twoLots 19) with queue := [waiting 3 .chute1 .draw 0 0] } : Record).waits 3 = true := by
  decide +kernel

/-- The sighting on the line after n lost windows. -/
def losing (n : Nat) (x : Option Sending) : State :=
  { pass with lkc := { Lkc.reset with queue := [.sighting 1], losses := n, ownFailures := n, sending := x } }

theorem witness_FailedSendsAreCounted_bits :
    (losing 14 none).readBack [false] = .agrees ∧ claimOnTheLine.sentCommand 0 = some (.claimFrame 2 9 4) ∧
    (frameOf (.claimFrame 2 9 4)).isSome = true ∧ (0 ≤ 12 ∧ 7 ≤ 12 ∧ 8 ≤ 12) ∧
    claimOnTheLine.readBack (misread 7 claimOnTheLine) = .lost 7 ∧
    (∀ n ∈ [0, 9, 20], claimOnTheLine.readBack (misread n claimOnTheLine) = .failed n) ∧
    { claimOnTheLine with conditions := BitVec.twoPow 13 (conditionBit .actuator) }.grade = 2 := by decide +kernel

theorem witness_FailedSendsAreCounted_losses :
    (losing 14 none).grade < 2 ∧ (losing 14 none).lkc.sending = none ∧
    (∀ n ∈ [14, 15], (losing n (some (.event (.sighting 1)))).lkc.queue.head? = some (.sighting 1)) ∧
    (losing 14 (some (.event (.sighting 1)))).lkc.losses < 15 ∧
    15 ≤ (losing 15 (some (.event (.sighting 1)))).lkc.losses ∧
    (losing 14 (some (.status someFields))).lkc.sending = some (.status someFields) := by decide +kernel

/-- Station 2 with its OPENING on the line at a round time. -/
def bidding (n time : Nat) : State :=
  { losing n (some (.opening 6 0 false 0x1234)) with rsc := { pass.rsc with roundTime := time } }

theorem witness_FailedSendsAreCounted_failures :
    (losing 2 (some (.event (.sighting 1)))).lkc.ownFailures < 3 ∧ (bidding 2 439).grade < 2 ∧
    (bidding 2 439).lkc.ownFailures < 3 ∧ (bidding 2 439).pastOpen (bidding 2 439).rsc.roundTime = false ∧
    (bidding 2 440).pastOpen (bidding 2 440).rsc.roundTime = true ∧ 3 ≤ (bidding 3 440).lkc.ownFailures := by
  decide +kernel

theorem witness_DiscardedFramesAreCounted :
    pass.rsc.link ≠ .offline ∧ [false, false].head? = some false ∧
    judge pass.station [false, false] = .discarded .codingError ∧ pass.rsc.span = .inRound ∧
    pass.pastOpen 440 = true ∧ pass.pastOpen 439 = false ∧
    (atWork tip5 .listen none).rsc.link ≠ .offline ∧
    { Lkc.reset with badFrames := 15 }.badFrames = 15 ∧ Lkc.reset.discarding = false ∧
    { Lkc.reset with discarding := true }.discarding = true := by decide +kernel

theorem witness_GradeAndWhatItsRiseBrings :
    drawing3.grade < 2 ∧ conditionGrade .actuator = 2 ∧ Condition.actuator ≠ .watch ∧ drawing3.role = .chute ∧
    drawing3.rsc.link ≠ .halted ∧ drawing3.dre.state = .running ∧ drawing3.dre.current ≠ none ∧
    (setEngine .hung { drawing3 with dre := Dre.reset }).dre.state = .hung ∧ stuck.active .actuator = true ∧
    EventFrame.claim .level4 .tip ∈ (claiming tipStart).lkc.queue ∧ (claiming tipStart).grade < 2 := by decide +kernel

theorem witness_OpeningFrameStartsARound :
    ∀ l ∈ [LinkState.listen, .joining, .halted], (atWork tip5 l none).delivers (.openingFrame 3 23 255 true 0x1234) 3 0 ∧
    0x1234 = (atWork tip5 l none).ownDigest ∧ (23 : Byte).toNat < 24 ∧ (atWork tip5 l none).rsc.link = l ∧
    (atWork tip5 l none).rsc.joiningCount = 0 ∧ (atWork tip5 l none).rsc.sequence ≠ (255 : Byte).toNat ∧
    (atWork tip5 l none).rsc.sequence = (0 : Byte).toNat ∧ (atWork tip5 l none).rsc.paused ≠ true := by
  unfold State.delivers; decide +kernel

theorem witness_OpeningFrameThatStartsNoRound :
    (drawing3.delivers (.openingFrame 2 6 0 false 0x1235) 2 0 ∧ drawing3.delivers (.openingFrame 2 24 0 false 0x1234) 2 0) ∧
    0x1235 ≠ drawing3.ownDigest ∧ drawing3.grade < 3 ∧ drawing3.role = .chute ∧ drawing3.rsc.link ≠ .halted ∧
    0x1234 = drawing3.ownDigest ∧ 24 ≤ (24 : Byte).toNat :=
  ⟨⟨.inl (by decide +kernel), .inl (by decide +kernel)⟩, by decide +kernel⟩

/-- The provider of a freeze that has passed a round start. -/
def providing : State :=
  { frozenPass with agu := { frozenPass.agu with snapshot := some { digest := 0, totalPieces := 6 } } }

theorem witness_OwnFramesReportTheStation :
    pass.rsc.link ≠ .joining ∧ pass.record ≠ none ∧ alone.rsc.link = .joining ∧
    providing.statusFields.piece.isSome = true := by decide +kernel

theorem witness_PlanMarksStartSendings_slot_and_bid :
    pass.settings.slotOf pass.station = some (0, { kind := some .status, mark := 0, owner := 2, period := 1, phase := 0 }) ∧
    pass.rsc.span = .inRound ∧ pass.rsc.link = .inStep ∧ pass.rsc.walkPos ≤ 0 ∧ pass.rsc.roundTime ≤ 0 ∧
    pass.settings.markOf .opening = some 440 ∧ 1 ≤ pass.rank ∧ pass.rank ≤ 4 ∧ pass.rsc.abandoned = false ∧
    pass.rsc.bidDone = false ∧ pass.rsc.roundTime ≤ 440 + (pass.rank - 1) * 40 := by decide +kernel

theorem witness_PlanMarksStartSendings_window :
    pass.settings.walk[7]? = some { kind := some .window, mark := 280, owner := 0, period := 1, phase := 0 } ∧
    pass.rsc.roundNumber % 1 = 0 ∧ pass.rsc.walkPos ≤ 7 ∧ pass.rsc.roundTime ≤ 280 ∧ pass.chosen = none ∧
    (losing 14 none).chosen = some (.sighting 1) ∧ (losing 14 none).lkc.sending = none ∧
    (losing 14 none).lkc.discarding = false ∧ (losing 14 none).lkc.queue.head? = some (.sighting 1) ∧
    (losing 14 none).lkc.losses < 15 ∧ 15 ≤ (losing 15 none).lkc.losses := by decide +kernel

theorem witness_StatusCheckCountsTheSlot :
    pass.settings.slotOf (11 : BitVec 4).toNat =
      some (6, { kind := some .status, mark := 240, owner := 11, period := 1, phase := 0 }) ∧
    (11 : BitVec 4).toNat ≠ pass.station ∧ pass.rsc.span = .inRound ∧ pass.rsc.link = .inStep ∧
    pass.rsc.checkPos ≤ 6 ∧ pass.rsc.roundTime ≤ 240 + 40 := by decide +kernel

theorem witness_StatusCheckCountsTheSlot_shaped : pass.shaped := by
  unfold State.shaped; decide +kernel

theorem witness_WatchAndListenSpans :
    pass.settings.markOf .watch = some 640 ∧ pass.rsc.roundTime ≤ 640 ∧ pass.rsc.link = .inStep ∧
    alone.settings.markOf .watch = some 640 ∧ alone.rsc.link = .joining ∧ alone.rsc.roundTime ≤ 640 ∧
    (atWork tip5 .listen none).rsc.link = .listen ∧ (atWork tip5 .listen none).rsc.roundTime ≤ 640 + 40 ∧
    (atWork tip5 .listen none).settings.markOf .watch = some 640 ∧
    pass.pending = [] ∧ alone.pending = [] ∧ (atWork tip5 .listen none).pending = [] := by decide +kernel

/-- A station at a round time, with nothing waiting. -/
def atTime (link : LinkState) (time : Nat) : State :=
  { atWork tip5 link none with rsc := { (atWork tip5 link none).rsc with roundTime := time } }

/-- The idle mark at each boundary: before a moment, at it, at the end of round time, and in OFFLINE. -/
theorem test_idle_marks_advance_round_time :
    (∀ p ∈ [(LinkState.joining, 639, 640), (.joining, 640, 1), (.joining, 4094, 4095), (.joining, 4095, 4095),
        (.listen, 640, 641), (.listen, 680, 1), (.offline, 7, 7)],
      (nextOf (step (atTime p.1 p.2.1))).any (fun t => decide (t.rsc.roundTime = p.2.2)) = true) := by decide +kernel

/-- `test_the_plan_passes_at_every_station` meets the hypothesis; the plan has two active entries 40 apart. -/
theorem witness_PassingPlanKeepsItsProperties :
    (∀ b ∈ planChecks configured 4, b = true) ∧ configured.walk.length = 14 := by decide +kernel

/-- A JOINING station with what it heard of stations 2 and 9. -/
def deciding (heard : List (Option Report)) : State :=
  { atWork tip5 .joining none with
    rsc := { (atWork tip5 .joining none).rsc with joiningCount := 1, heard := heard } }

/-- The qualifying peers of the round that the deciding round start ends. -/
def peersOf (s : State) : List Compared := State.qualifyingPeers { s with rsc := { s.rsc with lastHeard := s.rsc.heard } }

def inStepReport : Option Report := some { link := 4, config := 0x1234, digest := 0xA }

theorem witness_JoiningDecisionAsksFoundsOrWaits :
    (deciding []).rsc.link = .joining ∧ 1 ≤ (deciding []).rsc.joiningCount ∧
    peersOf (deciding [none, inStepReport, none, none, none, none, none, none, inStepReport]) =
      [{ station := 2, digest := 0xA }, { station := 9, digest := 0xA }] ∧
    peersOf (deciding []) = [] ∧ (deciding []).lowestPresent = false ∧
    peersOf alone = [] ∧ alone.lowestPresent = true := by decide +kernel

theorem witness_ChecksAndDigests :
    let aged : Record := { lastLease with queue := [waiting 2 .access .access 3 0], table := accessWaits.table }
    aged.column = lastLease.column ∧
    (∀ row ∈ allRows, (aged.table.get row).map (fun g => { g with lease := 0 }) =
      (lastLease.table.get row).map fun g => { g with lease := 0 }) ∧
    (aged.queue.map fun e => { e with age := 0 }) = (lastLease.queue.map fun e => { e with age := 0 }) ∧
    (7 : Nat) < 8 := by decide +kernel

/-- A station that compares the digests of the round just ended. -/
def comparing (own : Word16) : State :=
  { pass with
    agu := { Agu.reset with inStepBefore := true, digest := own }
    rsc := { pass.rsc with heard := [none, none, inStepReport, inStepReport] ++ List.replicate 8 none } }

theorem witness_RoundStartComparesDigests_agreeing :
    (comparing 0xA).delivers (.openingFrame 3 23 0 false 0x1234) 3 0 ∧ (comparing 0xA).ownDigest = 0x1234 ∧
    (comparing 0xA).rsc.link = .inStep ∧ (comparing 0xA).agu.inStepBefore = true ∧ (comparing 0xA).station = 2 ∧
    State.compared { comparing 0xA with rsc := { (comparing 0xA).rsc with lastHeard := (comparing 0xA).rsc.heard } }
      0xA = [⟨2, 0xA⟩, ⟨3, 0xA⟩, ⟨4, 0xA⟩] ∧
    majorityDigest [⟨2, 0xA⟩, ⟨3, 0xA⟩, ⟨4, 0xA⟩] = some 0xA ∧
    majorityLowest [⟨2, 0xA⟩, ⟨3, 0xA⟩, ⟨4, 0xA⟩] = some 2 := ⟨.inl (by decide +kernel), by decide +kernel⟩

theorem witness_RoundStartComparesDigests_disagreeing :
    (comparing 0xB).delivers (.openingFrame 3 23 0 false 0x1234) 3 0 ∧ (comparing 0xB).ownDigest = 0x1234 ∧
    (comparing 0xB).rsc.link = .inStep ∧ (comparing 0xB).agu.inStepBefore = true ∧ (comparing 0xB).station = 2 ∧
    State.compared { comparing 0xB with rsc := { (comparing 0xB).rsc with lastHeard := (comparing 0xB).rsc.heard } }
      0xB = [⟨2, 0xB⟩, ⟨3, 0xA⟩, ⟨4, 0xA⟩] ∧
    majorityDigest [⟨2, 0xB⟩, ⟨3, 0xA⟩, ⟨4, 0xA⟩] = some 0xA ∧
    majorityLowest [⟨2, 0xB⟩, ⟨3, 0xA⟩, ⟨4, 0xA⟩] = some 3 := ⟨.inl (by decide +kernel), by decide +kernel⟩

theorem witness_RoundStartComparesDigests_majorities :
    [(⟨2, 0xB⟩ : Compared), ⟨3, 0xA⟩, ⟨4, 0xA⟩].length <
      2 * ([(⟨2, 0xB⟩ : Compared), ⟨3, 0xA⟩, ⟨4, 0xA⟩].filter fun c => c.digest = 0xA).length ∧
    majorityDigest [⟨2, 0xB⟩, ⟨3, 0xA⟩] = some 0xB := by decide +kernel

theorem witness_RoundStartComparesDigests_even_group (d : Word16) :
    2 * ([(⟨2, 0xB⟩ : Compared), ⟨3, 0xA⟩].filter fun x => x.digest = d).length ≤
      [(⟨2, 0xB⟩ : Compared), ⟨3, 0xA⟩].length := by
  rcases Decidable.em (d = 0xB) with rfl | h
  · decide
  · have h' : ¬(0xB#16 = d) := fun e => h e.symm
    rcases Decidable.em (d = 0xA) with rfl | g
    · decide
    · have g' : ¬(0xA#16 = d) := fun e => g e.symm
      simp [List.filter, h', g']

/-- A receiver that asks, with its CATCHUP on the line. -/
def asking : State := sends (.catchup 2) (catchingUp .asking Freeze.idle none)

theorem witness_CatchupFrameBeginsOrJoinsAFreeze :
    (pass.delivers (.catchupFrame 5 2) 5 0 ∧ pass.delivers (.catchupFrame 5 5) 5 0 ∧
      pass.delivers (.catchupFrame 5 13) 5 0 ∧ frozenPass.delivers (.catchupFrame 9 2) 9 0 ∧
      asking.delivers (.catchupFrame 5 2) 5 0) ∧
    pass.rsc.link = .inStep ∧ pass.agu.tracker.run = none ∧ (2 : Byte).toNat = pass.station ∧
    frozenPass.agu.tracker.run = some { provider := 2, receivers := 0x010, remaining := 95 } ∧
    asking.rsc.link = .catchup ∧ (5 : BitVec 4).toNat = asking.station ∧ asking.agu.receiver = .asking ∧
    12 < (13 : Byte).toNat ∧ (12 : Byte).toNat ≤ 12 :=
  ⟨⟨.inl (by decide +kernel), .inl (by decide +kernel), .inl (by decide +kernel), .inl (by decide +kernel),
    .inr (by decide +kernel)⟩, by decide +kernel⟩

/-- A receiver whose CAUGHT is on the line. -/
def telling (receiver : ReceiverState) (o : CaughtOutcome) : State :=
  let s := sends (.caught o) (catchingUp receiver (freezeOf 2 0x110 87) (some accessWaits))
  { s with agu := { s.agu with failures := 2 } }

theorem witness_CaughtFrameEndsFreezeOrAttempt_own :
    ((telling .installing .installed).delivers (.caughtFrame 5 1) 5 0 ∧
      (telling .abandoning .abandoned).delivers (.caughtFrame 5 2) 5 0) ∧
    caughtOfCode 1 = some .installed ∧ caughtOfCode 2 = some .abandoned ∧
    (telling .installing .installed).rsc.link = .catchup ∧
    (5 : BitVec 4).toNat = (telling .installing .installed).station ∧
    (telling .installing .installed).agu.receiver = .installing ∧
    (telling .abandoning .abandoned).agu.receiver = .abandoning ∧ 2 ≤ (telling .abandoning .abandoned).agu.failures :=
  ⟨⟨.inr (by decide +kernel), .inr (by decide +kernel)⟩, by decide +kernel⟩

/-- A station of a row whose CAUGHT(INSTALLED) is on the line, with the record it installed. -/
def rejoining (word : BitVec 14) (r : Record) : State :=
  let s := sends (.caught .installed) (atWork word .catchup (some r))
  { s with agu := { Agu.reset with receiver := .installing, view := freezeOf 2 0x110 87 } }

/-- Sequencer and access of the rejoining TIP station, and the engine of the rejoining CHUTE station. -/
def rejoiningTip (r : Record) (tbs : TbsState) (access : AccessState) (claims : Bool) : State :=
  let s := rejoining tip5 r
  { s with
    tbs := { s.tbs with state := tbs, claimInQueue := claims }
    lpt := { s.lpt with access := access, accessClaim := claims }
    lkc := { s.lkc with queue := s.lkc.queue ++ (if claims then [.claim .level4 .tip, .claim .access .access] else []) } }

def rejoiningChute (r : Record) (e : EngineState) (o : Option Order) (claims : Bool) : State :=
  let s := rejoining chute3 r
  { s with
    dre := { s.dre with state := e, current := o, claimInQueue := claims }
    lkc := { s.lkc with queue := s.lkc.queue ++ (if claims then [.claim .chute1 .draw] else []) } }

/-- Records in which station 5 holds LEVEL-4, holds ACCESS, waits for either, and stands nowhere. -/
def holds5 : Record :=
  { freeRecord (columnOf twoLots 19) with table := { ClaimTable.free with level4 := some (grantTo 5 .tip 60) } }
def access5 : Record :=
  { freeRecord (columnOf twoLots 19) with table := { ClaimTable.free with access := some (grantTo 5 .access 0) } }
def waits5 (row : Row) (p : Purpose) : Record :=
  { freeRecord (columnOf twoLots 19) with queue := [waiting 5 row p 0 60] }

theorem witness_CaughtFrameEndsFreezeOrAttempt_sequencer_and_access :
    (∀ r ∈ [holds5, access5, waits5 .level4 .tip, waits5 .access .access, freeRecord (columnOf twoLots 19)],
      ∀ q ∈ [TbsState.idle, .asking, .granted, .ending], ∀ a ∈ [AccessState.idle, .asking, .held],
      ∀ c ∈ [true, false], (rejoiningTip r q a c).arrival (.caughtFrame 5 1) 5 0 = .own ∧
        (rejoiningTip r q a c).rsc.link = .catchup ∧ (rejoiningTip r q a c).agu.receiver = .installing ∧
        (rejoiningTip r q a c).ownRow = some .level4 ∧ (rejoiningTip r q a c).record = some r ∧
        (rejoiningTip r q a c).tbs.state = q ∧ (rejoiningTip r q a c).lpt.access = a ∧
        ((rejoiningTip r q a c).tbs.claimInQueue &&
          (rejoiningTip r q a c).lkc.queue.any (EventFrame.isClaimFor .level4)) = c ∧
        ((rejoiningTip r q a c).lpt.accessClaim &&
          (rejoiningTip r q a c).lkc.queue.any (EventFrame.isClaimFor .access)) = c) ∧
    caughtOfCode 1 = some .installed ∧ holds5.table.holds 5 .level4 = true ∧ access5.table.holds 5 .access = true ∧
    access5.table.holds 5 .level4 = false ∧ holds5.table.holds 5 .access = false ∧
    (waits5 .level4 .tip).waitsFor 5 .level4 = true ∧ (waits5 .access .access).waitsFor 5 .access = true ∧
    (waits5 .level4 .tip).waitsFor 5 .access = false := by decide +kernel

/-- A MONITOR station has no row of its own, and a rejoining one reads for its access. -/
theorem witness_CaughtFrameEndsFreezeOrAttempt_monitor :
    ∀ a ∈ [AccessState.idle, .asking, .held], ∀ s,
      s = { rejoining monitor2 accessWaits with lpt := { (rejoining monitor2 accessWaits).lpt with access := a } } →
      s.arrival (.caughtFrame 2 1) 2 0 = .own ∧ s.rsc.link = .catchup ∧ s.agu.receiver = .installing ∧
      s.ownRow = none ∧ s.record = some accessWaits ∧ s.lpt.access = a := by
  intro a ha s hs; subst hs; revert a; decide +kernel

/-- Records in which station 3 holds CHUTE-1 over a total, waits for it, or finds the column HUNG. -/
def holds3 (total : Nat) : Record :=
  { freeRecord (columnOf [shutLot 1 .tipped 1 1 total] 2) with table := taken1 3 }
def waits3 : Record := { freeRecord (columnOf twoLots 19) with queue := [waiting 3 .chute1 .draw 0 0] }

theorem witness_CaughtFrameEndsFreezeOrAttempt_engine :
    (∀ r ∈ [holds3 760, holds3 300, waits3, hungRecord, freeRecord (columnOf twoLots 19)],
      ∀ x ∈ [(EngineState.idle, none), (.suspended, some (Order.draw 40 3)), (.suspended, some (.dwell 5 2)),
        (.asking, some (.draw 40 3)), (.asking, some (.dwell 5 5))],
      ∀ c ∈ [true, false], (rejoiningChute r x.1 x.2 c).arrival (.caughtFrame 3 1) 3 0 = .own ∧
        (rejoiningChute r x.1 x.2 c).agu.receiver = .installing ∧ (rejoiningChute r x.1 x.2 c).role = .chute ∧
        (rejoiningChute r x.1 x.2 c).ownRow = some .chute1 ∧ (rejoiningChute r x.1 x.2 c).record = some r ∧
        (rejoiningChute r x.1 x.2 c).dre.state = x.1 ∧ (rejoiningChute r x.1 x.2 c).dre.current = x.2 ∧
        ((rejoiningChute r x.1 x.2 c).dre.claimInQueue &&
          (rejoiningChute r x.1 x.2 c).lkc.queue.any (EventFrame.isClaimFor .chute1)) = c) ∧
    (rejoiningChute (holds3 760) .suspended none false).cushionFails = false ∧
    (rejoiningChute (holds3 300) .suspended none false).cushionFails = true ∧
    (holds3 760).table.holds 3 .chute1 = true ∧ waits3.table.holds 3 .chute1 = false ∧
    waits3.waitsFor 3 .chute1 = true ∧ (freeRecord (columnOf twoLots 19)).waitsFor 3 .chute1 = false ∧
    (holds3 760).column.hung = none ∧ hungRecord.column.hung ≠ none := by decide +kernel

/-- A collecting receiver under a view whose one receiver is station 9. -/
def collecting (store : List StoredPiece) : State :=
  let s := catchingUp .collecting (freezeOf 2 0x100 2) none
  { s with agu := { s.agu with store := store, storeImage := 40 } }

/-- A HUNG engine that rejoins under a NORMAL column, its own HANGUP pending or not, at G0, at G2 by ACTUATOR and by WATCH. -/
theorem witness_CaughtFrameEndsFreezeOrAttempt_hung_engine :
    (∀ own ∈ [true, false], ∀ c ∈ [(0 : BitVec 13), BitVec.twoPow 13 4, BitVec.twoPow 13 0], ∀ s,
      s = { rejoiningChute (holds3 760) .hung none false with
        conditions := c, dre := { Dre.reset with state := .hung, ownHangup := own } } →
      s.arrival (.caughtFrame 3 1) 3 0 = .own ∧ s.agu.receiver = .installing ∧ s.role = .chute ∧
      s.record = some (holds3 760) ∧ s.dre.state = .hung ∧ s.dre.ownHangup = own ∧
      gives (.caughtFrame 3 1) s (fun t =>
        decide (t.dre.state = if own then .hung else if 2 ≤ t.gradeLessWatch then .faulted else .idle)) = true) ∧
    (holds3 760).column.hung = none := by
  refine ⟨fun own ho c hc s hs => ?_, by decide +kernel⟩
  subst hs; revert c; revert own; decide +kernel

theorem witness_CaughtFrameEndsFreezeOrAttempt_other :
    (frozenPass.delivers (.caughtFrame 5 1) 5 0 ∧ (collecting []).delivers (.caughtFrame 9 2) 9 0 ∧
      (collecting []).delivers (.caughtFrame 4 2) 4 0) ∧
    frozenPass.rsc.link = .inStep ∧ (collecting []).rsc.link = .catchup ∧ (collecting []).attempting = true ∧
    (collecting []).agu.view.run ≠ none ∧ ((collecting []).agu.view.caught 9).run = none ∧
    ((collecting []).agu.view.caught 4).run ≠ none :=
  ⟨⟨.inl (by decide +kernel), .inl (by decide +kernel), .inl (by decide +kernel)⟩, by decide +kernel⟩

theorem witness_FreezeLimitAndHangupAtAReceiver :
    (collecting []).delivers (.hangupFrame 3 1) 3 0 ∧ (collecting []).rsc.link = .catchup ∧
    (collecting []).agu.view.run ≠ none ∧ (collecting []).attempting = true ∧
    (tracking (freezeOf 2 0x010 1) pass).rsc.link = .inStep ∧
    (tracking (freezeOf 2 0x010 1) pass).agu.tracker.run = some { provider := 2, receivers := 0x010, remaining := 1 } ∧
    (catchingUp .backoff (freezeOf 2 0x100 1) none).agu.view.run =
      some { provider := 2, receivers := 0x100, remaining := 1 } ∧
    (catchingUp .backoff (freezeOf 2 0x100 1) none).attempting = false :=
  ⟨.inl (by decide +kernel), by decide +kernel⟩

/-- An empty record and its five pieces less one: header, three of claim rows. -/
def emptyImage : Record := freeRecord (columnOf [] 0)

def emptySnap : Snapshot := { digest := emptyImage.digest, totalPieces := 4 }

/-- The pieces of the empty record below an index. -/
def emptyPieces (n : Nat) : List StoredPiece :=
  (List.range n).map fun i => { index := i, content := pieceContent emptyImage emptySnap i }

/-- The pieces below index 3 with claim rows that describe no grant. -/
def spoiltPieces : List StoredPiece := storePiece { index := 1, content := BitVec.allOnes 112 } (emptyPieces 3)

/-- Piece i of the empty record, as received by stations 5 and 9. -/
def pieceOf (i : Nat) : Piece :=
  { image := 40, index := BitVec.ofNat 8 i, receivers := 0x110, remaining := 90
    content := pieceContent emptyImage emptySnap i }

/-- A STATUS frame with it. -/
def pieceFrame (i : Nat) : StatusFields := { someFields with piece := some (pieceOf i) }

theorem witness_StatusFramePiecesAreKeptAndInstalled_frames :
    ((collecting []).delivers (.statusFrame 2 (pieceFrame 0) 0) 2 0 ∧
      (collecting (emptyPieces 3)).delivers (.statusFrame 2 (pieceFrame 3) 0) 2 0 ∧
      (collecting spoiltPieces).delivers (.statusFrame 2 (pieceFrame 3) 0) 2 0) ∧
    (collecting []).rsc.link = .catchup ∧ (collecting []).agu.receiver = .collecting ∧
    (pieceFrame 0).config = (collecting []).ownDigest ∧ hasStation (pieceOf 0).receivers (collecting []).station = true ∧
    pieceStorable (pieceOf 0) = true ∧ pieceStorable (pieceOf 3) = true ∧ (collecting spoiltPieces).agu.store ≠ [] ∧
    (collecting (emptyPieces 3)).agu.storeImage = (pieceOf 3).image.toNat :=
  ⟨⟨.inl (by decide +kernel), .inl (by decide +kernel), .inl (by decide +kernel)⟩, by decide +kernel⟩

/-- A STATUS without a piece, one for other receivers, and one in another link state. -/
theorem witness_StatusFramePiecesAreKeptAndInstalled_others :
    ((collecting []).delivers (.statusFrame 2 someFields 0) 2 0 ∧
      (collecting []).delivers (.statusFrame 2 { pieceFrame 0 with piece := some { pieceOf 0 with receivers := 0 } } 0) 2 0 ∧
      (atTime .joining 0).delivers (.statusFrame 2 (pieceFrame 0) 0) 2 0) ∧
    someFields.piece = none ∧ hasStation 0 (collecting []).station = false ∧ (atTime .joining 0).rsc.link ≠ .catchup :=
  ⟨⟨.inl (by decide +kernel), .inl (by decide +kernel), .inl (by decide +kernel)⟩, by decide +kernel⟩

theorem witness_StatusFramePiecesAreKeptAndInstalled_stores :
    storeComplete (storePiece { index := 0, content := (pieceOf 0).content } []) = false ∧
    storeComplete (storePiece { index := 3, content := (pieceOf 3).content } (emptyPieces 3)) = true ∧
    buildImage configured (storePiece { index := 3, content := (pieceOf 3).content } (emptyPieces 3)) = some emptyImage ∧
    storeComplete (storePiece { index := 3, content := (pieceOf 3).content } spoiltPieces) = true ∧
    buildImage configured (storePiece { index := 3, content := (pieceOf 3).content } spoiltPieces) = none := by
  decide +kernel

theorem witness_ImageOfARecordBuildsThatRecord :
    ({ digest := lastLease.digest, totalPieces := totalPieces 8 1 } : Snapshot) =
      { digest := lastLease.digest, totalPieces := totalPieces lastLease.column.lots.length lastLease.queue.length } ∧
    lastLease.lawful = true ∧ lastLease.column.nextLot ≤ 65535 ∧ lastLease.column.overdraw ≤ 65535 ∧
    lastLease.column.hung = none ∧
    (∀ l ∈ lastLease.column.lots, l.lawful = true ∧ l.number ≤ 65535 ∧ l.source ≤ 6 ∧ (l.source = 0 ↔ l.kind = .found) ∧
      l.gradeClass ≤ 7 ∧ l.tonnes ≤ 65535 ∧ l.held = none) ∧
    (∀ row ∈ allRows, (lastLease.table.get row).all fun g => decide (1 ≤ g.holder ∧ g.holder ≤ 12 ∧ 1 ≤ g.lease ∧
      g.lease ≤ 255 ∧ g.reservation ≤ 4095 ∧ reservationFits row g.reservation = true ∧
      claimMatches configured row g.purpose = true)) ∧
    (∀ e ∈ lastLease.queue, 1 ≤ e.station ∧ e.station ≤ 12 ∧ e.age ≤ configured.waitLimit.toNat ∧ e.reservation ≤ 4095 ∧
      e.reservation = (if isLevel e.row then configured.tipReservation.toNat else 0) ∧
      claimMatches configured e.row e.purpose = true) :=
  ⟨rfl, by decide +kernel⟩

/-- A receiver in BACKOFF. -/
def backingOff (failures rounds round : Nat) (r : Option Record) (heard : List (Option Report)) : State :=
  let s := catchingUp .backoff Freeze.idle r
  { s with
    agu := { s.agu with failures := failures, backoffRounds := rounds }
    rsc := { s.rsc with roundNumber := round, heard := heard } }

theorem witness_RetryDueAsksWaitsOrRejoins :
    (backingOff 2 1 5 none []).rsc.link = .catchup ∧ (backingOff 2 1 5 none []).agu.receiver = .backoff ∧
    (backingOff 2 1 5 none []).agu.view.run = none ∧ (backingOff 2 1 5 none []).agu.failures < 3 ∧
    1 ≤ (backingOff 2 1 5 none []).agu.backoffRounds ∧ 3 ≤ (backingOff 3 2 23 none []).agu.failures ∧
    2 ≤ (backingOff 3 2 23 none []).agu.backoffRounds ∧ (backingOff 3 2 23 none []).rsc.roundNumber = 23 ∧
    (backingOff 2 1 5 none []).caughtPending = false ∧ peersOf (backingOff 2 1 5 none []) = [] ∧
    (backingOff 2 1 5 none []).record = none ∧ (backingOff 2 1 5 (some accessWaits) []).record ≠ none ∧
    majorityLowest (peersOf (backingOff 2 1 5 none [none, inStepReport])) = some 2 ∧
    { backingOff 2 1 5 none [] with lkc := { Lkc.reset with queue := [.caught .abandoned] } }.caughtPending = true := by
  decide +kernel

/-- Each BEGIN, END and ABANDON is taken somewhere: the tests of their answers all pass. -/
theorem witness_SessionRequestsByTheirAnswers :
    (∀ s ∈ [inStep tip5 (freeRecord (columnOf twoLots 19)), tipping true,
        { inStep breaker7 beforeBreak with tbs := { Tbs.reset with state := .granted } }],
      s.stl.loaded = true ∧ s.rsc.link = .inStep ∧ s.holdLine = false ∧ s.grade < 2 ∧ eventCount s.lkc.queue < 8) ∧
    (inStep tip5 tipStart).role = .tip ∧ (inStep breaker7 afterTip).role = .breaker ∧
    (inStep tip5 tipStart).ownRow = some .level4 ∧ (inStep breaker7 afterTip).ownRow = some .level3 ∧
    (inStep tip5 tipStart).tbs.state = .idle ∧ (tipping true).tbs.state = .granted ∧
    ¬((4095 : Word16).toNat < 1 ∨ 4095 < (4095 : Word16).toNat ∨ 6 < (6 : Byte).toNat) := by decide +kernel

theorem witness_DrawQueueByItsAnswer :
    ∀ s ∈ [inStep chute3 (freeRecord (columnOf twoLots 19)), drawing3], s.stl.loaded = true ∧ s.rsc.link = .inStep ∧
    s.role = .chute ∧ s.holdLine = false ∧ s.grade < 2 ∧ s.dre.state ≠ .hung ∧ s.dre.state ≠ .faulted ∧
    ¬(s.dre.current ≠ none ∧ s.dre.next ≠ none) ∧ eventCount s.lkc.queue < 8 ∧ s.ownRow = some .chute1 ∧
    (s.dre.current = none ↔ s.dre.state = .idle) := by decide +kernel

theorem witness_DrawStopByItsAnswer :
    drawing3.stl.loaded = true ∧ drawing3.rsc.link ≠ .offline ∧ drawing3.role = .chute ∧ drawing3.dre.current ≠ none ∧
    drawing3.ownRow = some .chute1 ∧ drawing3.dre.state = .running ∧ drawing3.takes (.release .chute1) = true ∧
    drawing3.rsc.link ≠ .halted ∧ drawing3.dre.gate = .isOpen ∧
    (announcing (List.replicate 8 (.sighting 1)) none).takes (.release .chute1) = false := by decide +kernel

theorem witness_GateResetAndStuckGate :
    stuck.stl.loaded = true ∧ stuck.rsc.link = .inStep ∧ stuck.role = .chute ∧ stuck.dre.gate = .stuck ∧
    idleClosing.dre.gate = .closing ∧ idleClosing.rsc.link ≠ .halted := by decide +kernel

/-- A stroke one tick before its last, one at it, and one that stands in HALTED; no output disagrees. -/
theorem witness_GateResetAndStuckGate_ticks :
    (∀ n ∈ [7998, 7999], ∀ s, s = { idleClosing with dre := { idleClosing.dre with strokeCount := n } } →
      s.dre.gate = .closing ∧ s.rsc.link ≠ .halted ∧ s.settings.strokeTime.toNat = 8000 ∧
      (∀ i, i < 8 → (s.channel i).modeIs .lineOut = true → (s.channel i).pin = (s.channel i).driven) ∧
      (fieldTick s).dre.gate = if n = 7999 then .stuck else .closing) ∧
    { idleClosing with rsc := { idleClosing.rsc with link := .halted } }.rsc.link = .halted ∧
    stuck.dre.gate = .stuck := by
  refine ⟨fun n hn s hs => ?_, by decide +kernel⟩
  subst hs; revert n; decide +kernel

theorem witness_FrameRequestsByTheirAnswers :
    (inStep chute3 hungRecord).stl.loaded = true ∧ (inStep chute3 hungRecord).rsc.link = .inStep ∧
    (inStep chute3 hungRecord).role = .chute ∧ (inStep chute3 hungRecord).columnHung = true ∧
    eventCount (inStep chute3 hungRecord).lkc.queue < 8 ∧ pass.stl.loaded = true ∧ pass.columnHung = false ∧
    pass.holdLine = false ∧ pass.grade < 2 ∧ pass.lpt.access = .idle ∧
    { pass.lpt with access := .held }.access ≠ .idle := by decide +kernel

theorem witness_OrdersEndAndMoveUp :
    drawing3.ownRow = some .chute1 ∧ drawing3.dre.next = none ∧ drawing3.takes (.release .chute1) = true ∧
    { running with next := some (.draw 1 0) }.next = some (.draw 1 0) ∧
    { running with next := some (.dwell 255 255) }.next = some (.dwell 255 255) ∧ drawing3.record.isSome = true := by
  decide +kernel

/-- The chute with its belt scale at FC0, one pulse short of a tonne, under a total and with an order and a next. -/
def lastPulse (total target : Nat) (next : Option Order) : State :=
  withBelt 0 3
    { inStep chute3 (holds3 total) with
      dre := { running with current := some (.draw target 140), next := next } }

theorem witness_OrdersEndAndMoveUp_belt :
    (∀ s ∈ [lastPulse 760 400 none, lastPulse 760 141 none, lastPulse 351 400 none, lastPulse 351 141 none,
        lastPulse 760 141 (some (.dwell 5 5)), lastPulse 760 141 (some (.draw 9 0)),
        lastPulse 351 141 (some (.draw 9 0))],
      (s.channel 0).modeIs .countIn = true ∧ (s.channel 0).func = some .beltScale ∧ (s.channel 0).fresh = false ∧
      (s.channel 0).y = 0 ∧ 1 ≤ (s.channel 0).x.toNat ∧ (s.channel 0).x.toNat ≤ (s.channel 0).remainder + 1 ∧
      s.rsc.link = .inStep ∧ s.ownRow = some .chute1 ∧ s.dre.state = .running) ∧
    ((holds3 351).column.total : Nat) ≤ (holds3 351).effectiveCushion configured + min (0 + 1) 65535 + 50 ∧
    ¬((holds3 760).column.total ≤ (holds3 760).effectiveCushion configured + min (0 + 1) 65535 + 50) ∧
    (140 + 1 < 400) ∧ (141 ≤ 140 + 1) := by decide +kernel

theorem witness_OrdersEndAndMoveUp_belt_shaped : (lastPulse 760 400 none).shaped := by
  unfold State.shaped; decide +kernel

/-- A dwell in its last round. -/
def lastDwell : State :=
  { drawing3 with dre := { running with state := .dwelling, current := some (.dwell 5 1), gate := .shut } }

/-- A gate open for 39 rounds without flow. -/
def noFlow : State := { drawing3 with dre := { running with flowWatch := 39 } }

theorem witness_CountsThatReachTheirEnd_engine :
    lastDwell.rsc.link ≠ .halted ∧ lastDwell.role = .chute ∧ lastDwell.dre.state = .dwelling ∧
    lastDwell.dre.current = some (.dwell 5 1) ∧ lastDwell.dre.next = none ∧ lastDwell.ownRow = some .chute1 ∧
    noFlow.rsc.link ≠ .halted ∧ noFlow.role = .chute ∧ noFlow.dre.state = .running ∧ noFlow.dre.gate = .isOpen ∧
    noFlow.dre.flowWatch < 255 ∧ noFlow.settings.flowTimeout.toNat ≤ noFlow.dre.flowWatch + 1 := by decide +kernel

/-- A countdown at its last round. -/
def lastService (tbs : Tbs) (access : AccessState) : State :=
  { inStep tip5 tipStart with
    settings := { configured with hostInterval := 6 }, tbs := tbs
    lpt := { Lpt.reset with configDigest := some 0x1234, countdown := 1, access := access } }

theorem witness_CountsThatReachTheirEnd_host :
    ∀ s ∈ [lastService { Tbs.reset with state := .asking } .asking, lastService { Tbs.reset with state := .granted } .held,
      lastService Tbs.reset .idle], s.lpt.countdown = 1 ∧ s.settings.hostInterval ≠ 0 ∧ s.rsc.link ≠ .offline ∧
      s.active .hostSilent = false ∧ s.grade < 2 ∧ s.ownRow = some .level4 := by decide +kernel

theorem witness_StepRunsTheFrontCommand :
    { pass with pending := [.holdSet, .sight 9] }.pending = Instr.holdSet :: [.sight 9] ∧ pass.pending = [] ∧
    pass.microseconds + 256 / 2 ^ pass.rate < 1000 ∧
    1000 ≤ { pass with microseconds := 936 }.microseconds + 256 / 2 ^ pass.rate := by
  decide +kernel

theorem witness_RequestsNotTakenChangeNothing :
    Instr.isRequest (.sight 9) = true ∧ State.reset.stl.loaded = false ∧ pass.stl.loaded = true ∧
    gives (.sight 9) (inStep monitor2 hungRecord) (fun t => decide (t.lpt.answer = some .busy)) = true := by
  decide +kernel

theorem witness_ResetsLeaveTheirState :
    pass.stl.loaded = true ∧ pass.rsc.link ≠ .offline ∧ offline.stl.loaded = true ∧ offline.rsc.link = .offline := by
  decide +kernel

/-- A MONITOR station in OFFLINE under the worked configuration. -/
def readyToRun : State := { offline with stl := { offline.stl with word := monitor2 }, settings := configured }

theorem witness_ConfigDoneChecksThenListens :
    readyToRun.stl.loaded = true ∧ readyToRun.rsc.link = .offline ∧ (∀ b ∈ configChecks readyToRun, b = true) ∧
    (configChecks { readyToRun with settings := { configured with sightingSource := 2 } })[27]? = some false ∧
    (∀ m ∈ List.range 27, (configChecks { readyToRun with settings := { configured with sightingSource := 2 } })[m]? = some true) ∧
    pass.rsc.link ≠ .offline := by decide +kernel

theorem witness_ConfigItemsReadBackAsWritten :
    offline.stl.loaded = true ∧ offline.shaped ∧ itemWidth 0x02 39 = some 32 ∧ itemWidth 0x02 40 = none ∧
    itemWidth 0x04 6 = some 16 ∧ itemWidth 0x23 7 = some 8 ∧ ¬((1 : Byte) = 1 ∧ 40 < (40 : BitVec 32).toNat) ∧
    readItem 0x05 0 offline = .unwritten ∧ readItem 0x0D 0 offline = .noItem :=
  ⟨by decide +kernel, by unfold State.shaped; decide +kernel, by decide +kernel⟩

theorem witness_PortServicesTheStation :
    pass.stl.loaded = true ∧ stuck.dre.gate = .stuck ∧ pass.dre.gate ≠ .stuck ∧ pass.boundFault = false ∧
    (withChannel { Channel.reset with mode := 2, x := 5, binding := 8, fault := true }).boundFault = true := by
  decide +kernel

theorem witness_ReadsReturnTheirItems_bytes :
    pass.lpt.answer = none ∧ { pass.lpt with answer := some .bound }.answer = some .bound := by decide +kernel

theorem witness_ReadsReturnTheirItems :
    pass.stl.loaded = true ∧ pass.rsc.link = .inStep ∧ pass.record = some tipStart ∧ offline.record = none ∧
    offline.rsc.link ≠ .inStep := by decide +kernel

/-- An output at FC5, X = 5. -/
def output (binding : BitVec 8) (fault : Bool) : State :=
  withChannel { Channel.reset with mode := 2, x := 5, binding := binding, fault := fault }

theorem witness_ChannelRequestsAndReadback :
    (output 8 false).stl.loaded = true ∧ ((output 8 false).channel 5).modeIs .lineOut = true ∧
    ((output 8 false).channel 5).x.toNat < 6 ∧ 5 ≤ ((output 8 false).channel 5).x.toNat ∧
    ((output 8 false).channel 5).fault = false ∧ ((output 8 false).channel 5).binding ≠ 0 ∧
    ((output 0 true).channel 5).binding = 0 ∧ ((output 0 true).channel 5).fault = true ∧
    ((withChannel { conditioning with mode := 3, ready := true }).channel 5).ready = true ∧ 7 < (8 : Byte).toNat ∧
    (7 : Byte).toNat ≤ 7 ∧ (output 8 false).rsc.link ≠ .halted := by decide +kernel

/-- An output whose pin agrees, one within its grace and one at the end of it. -/
theorem witness_ChannelRequestsAndReadback_ticks :
    ∀ p ∈ [(false, 4, false), (true, 4, false), (true, 5, true)], ∀ s,
      s = setChannel 5 { (output 8 false).channel 5 with pin := p.1, graceCount := p.2.1 } (output 8 false) →
      (s.channel 5).modeIs .lineOut = true ∧ (s.channel 5).pin = (p.1 != (s.channel 5).driven) ∧
      ((channelTick 5 s).channel 5).fault = p.2.2 ∧ (channelTick 5 s).active .actuator = p.2.2 := by
  intro p hp s hs; subst hs; revert p; decide +kernel

theorem witness_ChannelRequestsAndReadback_shaped : (output 8 false).shaped := by
  unfold State.shaped; decide +kernel

theorem witness_InputChannelsCondition :
    ((withChannel { conditioning with mode := 1, x := 3, level := some false }).channel 5).modeIs .lineIn = true ∧
    ((withChannel { conditioning with mode := 1, x := 3 }).channel 5).level = none ∧
    ((withChannel { conditioning with mode := 1, x := 3, level := some false, fresh := true }).channel 5).fresh = true ∧
    ((withChannel { conditioning with mode := 1, x := 3, level := some false }).channel 5).fresh = false ∧
    ((withChannel { conditioning with mode := 1, x := 3, level := some false }).channel 5).level = some false ∧
    (withBelt 19 3 drawing3).channel 0 =
      { conditioning with mode := 3, x := 4, y := 0, binding := 6, whole := 19, remainder := 3 } ∧
    ((withBelt 19 3 drawing3).channel 0).func = some .beltScale ∧ drawing3.rsc.link ≠ .offline ∧
    drawing3.rsc.link ≠ .halted ∧
    ((withChannel { conditioning with mode := 4, y := 2 }).channel 5).modeIs .captureIn = true ∧
    (gauged.channel 3).modeIs .widthIn = true ∧ (gauged.channel 3).y.toNat ≤ (gauged.channel 3).pulses + 1 ∧
    (gauged.channel 3).func = some .levelGauge ∧ gauged.role = .monitor ∧ gauged.settings.sightingSource = 1 ∧
    gauged.columnNormal = true ∧ gauged.settings.sightingInterval.toNat ≤ gauged.fca.sightingCount ∧
    gauged.sightingPending = false ∧ eventCount gauged.lkc.queue < 8 := by decide +kernel

/-- A channel of a mode that has not come to its first field tick. -/
def freshChannel (mode : BitVec 8) : State := withChannel { Channel.reset with mode := mode, x := 3, y := 1 }

theorem witness_InputChannelsCondition_ticks :
    (∀ m ∈ [(3 : BitVec 8), 4, 5], ((freshChannel m).channel 5).fresh = true ∧
      ((freshChannel m).channel 5).modeIs .lineIn = false ∧ ((freshChannel m).channel 5).modeIs .lineOut = false) ∧
    ((freshChannel 3).channel 5).modeIs .countIn = true ∧ ((freshChannel 4).channel 5).modeIs .captureIn = true ∧
    ((freshChannel 5).channel 5).modeIs .widthIn = true ∧ ((freshChannel 1).channel 5).modeIs .lineIn = true ∧
    (let ch := (withChannel { conditioning with mode := 1, x := 3, level := some false, pin := true, run := 1 }).channel 5
     ch.level = some (!ch.pin) ∧ ch.fresh = false ∧ ch.run + 1 < ch.x.toNat ∧ ch.x.toNat ≤ 2 + 1) ∧
    (let ch := (withChannel { conditioning with mode := 1, x := 3, level := some false }).channel 5
     ch.level = some ch.pin) ∧
    ((withChannel { conditioning with mode := 4, y := 0 }).channel 5).y = 0 := by decide +kernel

theorem witness_InputChannelsCondition_shaped : gauged.shaped := by unfold State.shaped; decide +kernel

/-- A chute in the middle of a draw, a command waiting. -/
def busyChute : State :=
  { drawing3 with dre := { running with gate := .opening, openValve := true }, pending := [.drawStop] }

theorem witness_StepKeepsOutputsWithinTheirTerms :
    (∃ t, step busyChute = .next t) ∧ busyChute.outputLaw ∧ busyChute.valveLaw :=
  ⟨⟨_, rfl⟩, by unfold State.outputLaw; decide +kernel, by unfold State.valveLaw; decide +kernel⟩

theorem witness_StepKeepsTheLawsOfTheRecord :
    (∃ t, step pass = .next t) ∧ pass.recordHas (fun r => r.counts ∧ r.numbered ∧ r.claimsLawful ∧ r.entriesFit) := by
  refine ⟨⟨_, rfl⟩, fun r h => ?_⟩
  obtain rfl : tipStart = r := Option.some.inj h
  refine ⟨by unfold Record.counts; decide +kernel, by unfold Record.numbered; decide +kernel, ⟨by decide +kernel, fun h => ?_, by decide +kernel⟩, ?_⟩
  · exact absurd h (by decide)
  · unfold Record.entriesFit; decide +kernel

theorem witness_StepKeepsQueueLinkAndOrderLaws :
    (∃ t, step busyChute = .next t) ∧ busyChute.queueLaw ∧ busyChute.gradeLaw ∧ busyChute.silenceLaw ∧
    busyChute.linkLaw ∧ busyChute.shaped ∧
    (busyChute.dre.current ≠ none ∧ busyChute.dre.state = .running ∧ busyChute.dre.current = some (.draw 400 140)) :=
  ⟨⟨_, rfl⟩, by unfold State.queueLaw; decide +kernel, by unfold State.gradeLaw; decide +kernel,
    by unfold State.silenceLaw; decide +kernel, by unfold State.linkLaw; decide +kernel,
    by unfold State.shaped; decide +kernel, by decide +kernel⟩

/-- A frozen station with a SIGHTING of another station waiting, and a HALTED one with a request waiting. -/
def frozenNext : State := { frozenPass with pending := [.sightingFrame 4 9] }

def haltedNext : State := { atWork tip4 .halted (some tipStart) with pending := [.tipBegin] }

theorem witness_FrozenAndHaltedRecordsStay :
    frozenNext.rsc.link = .inStep ∧ frozenNext.frozen = true ∧
    (nextOf (step frozenNext)).any (fun t => decide (t.rsc.link = .inStep) && t.frozen) = true ∧
    haltedNext.rsc.link = .halted ∧ (nextOf (step haltedNext)).isSome = true ∧
    (∀ c ∈ haltedNext.pending.head?, c ≠ .resetLine ∧ c ≠ .restart ∧ c ≠ .enterConfig) := by decide +kernel

end Sys2Proof.Machine.Tests
end

section
/-! PROOFS. The ore column: the removal walk (R12), additions (R13) and appends (R5). -/

namespace Sys2Proof.Machine

/-! ### The removal walk (R12) -/

/-- What a removal walk that reaches a lot with n tonnes still to be removed leaves of the lot: none for a CLOSED lot it empties (R12). -/
def Lot.afterWalk (n : Nat) (l : Lot) : Option Lot :=
  if n = 0 then some l
  else if l.tonnes - n = 0 ∧ l.held = none then none
  else some { l with tonnes := l.tonnes - n }

theorem totalOf_cons (l : Lot) (ls : List Lot) : totalOf (l :: ls) = l.tonnes + totalOf ls := by
  simp [totalOf]

/-- A walk with nothing to remove ends at once. -/
@[simp] theorem removeTonnes_zero (ls : List Lot) : removeTonnes 0 ls = { lots := ls, remainder := 0 } := by
  cases ls <;> rfl

/-- A walk leaves of the oldest lot what `Lot.afterWalk` says, and goes on beyond it with what the lot could not give. -/
theorem removeTonnes_cons (n : Nat) (l : Lot) (ls : List Lot) :
    removeTonnes n (l :: ls) =
      { lots := (l.afterWalk n).toList ++ (removeTonnes (n - l.tonnes) ls).lots
        remainder := (removeTonnes (n - l.tonnes) ls).remainder } := by
  by_cases hn : n = 0
  · subst hn
    simp [Lot.afterWalk]
  · rw [removeTonnes, Lot.afterWalk, if_neg hn, if_neg hn]
    dsimp only
    rw [← Nat.sub_eq_sub_min, Nat.min_comm, ← Nat.sub_eq_sub_min]
    split <;> rfl

/-- The remainder of a walk is what exceeds the total of the lots. -/
theorem removeTonnes_remainder (n : Nat) (ls : List Lot) : (removeTonnes n ls).remainder = n - totalOf ls := by
  induction ls generalizing n with
  | nil => rfl
  | cons l ls ih => rw [removeTonnes_cons, ih, totalOf_cons, Nat.sub_sub]

/-- The walk reaches each lot with what the lots older than it could not give. -/
theorem removeTonnes_lots (n : Nat) (ls : List Lot) :
    (removeTonnes n ls).lots =
      ls.zipIdx.filterMap fun p => p.1.afterWalk (n - totalOf (ls.take p.2)) := by
  induction ls generalizing n with
  | nil => rfl
  | cons l ls ih =>
    have later : ∀ i, n - totalOf ((l :: ls).take (i + 1)) = n - l.tonnes - totalOf (ls.take i) := fun i => by
      rw [List.take_succ_cons, totalOf_cons, Nat.sub_sub]
    have first : n - totalOf ((l :: ls).take 0) = n := rfl
    rw [removeTonnes_cons, ih, List.zipIdx_cons', List.filterMap_cons, List.filterMap_map]
    simp only [Function.comp_def, Prod.map, id, later, first]
    cases l.afterWalk n <;> rfl

theorem draw_lots (c : Column) (n : Nat) : (c.draw n).lots = (removeTonnes n c.lots).lots := by
  unfold Column.draw
  dsimp only
  split <;> rfl

theorem sighted_lots_of_lt (c : Column) (m : Nat) (h : m < c.total) :
    (c.sighted m).lots = (removeTonnes (c.total - m) c.lots).lots := by
  rw [Column.sighted, if_neg (Nat.lt_asymm h)]

/-- Settles O1: each lot's part of the walk is `Lot.afterWalk` at what the older lots could not give, by induction on the lots. -/
theorem removalWalkTakesOldestFirst : Obligations.RemovalWalkTakesOldestFirst :=
  ⟨fun n lots => ⟨removeTonnes_remainder n lots, removeTonnes_lots n lots⟩, draw_lots, sighted_lots_of_lt⟩

/-! ### Additions (R13) -/

/-- An addition to a lot of the column: the saturated sum, and the unverified flag where it saturates. -/
theorem addAt_of_lot {c : Column} {i : Nat} {l : Lot} (h : c.lots[i]? = some l) (n : Nat) :
    c.addAt i n =
      { c with
        lots := c.lots.set i { l with tonnes := min (l.tonnes + n) 65535 }
        unverified := c.unverified || decide (65535 < l.tonnes + n) } := by
  rw [Column.addAt, h]

theorem addAt_of_sum_le {c : Column} {i : Nat} {l : Lot} (h : c.lots[i]? = some l) {n : Nat}
    (hn : l.tonnes + n ≤ 65535) :
    c.addAt i n = { c with lots := c.lots.set i { l with tonnes := l.tonnes + n } } := by
  rw [addAt_of_lot h, Nat.min_eq_left hn, decide_eq_false (Nat.not_lt.mpr hn), Bool.or_false]

theorem addAt_of_lt_sum {c : Column} {i : Nat} {l : Lot} (h : c.lots[i]? = some l) {n : Nat}
    (hn : 65535 < l.tonnes + n) :
    c.addAt i n = { c with lots := c.lots.set i { l with tonnes := 65535 }, unverified := true } := by
  rw [addAt_of_lot h, Nat.min_eq_right (Nat.le_of_lt hn), decide_eq_true hn, Bool.or_true]

theorem addNewest_of_nil {c : Column} (h : c.lots = []) (n : Nat) : c.addNewest n = c := by
  simp [Column.addNewest, Column.addAt, h]

theorem addNewest_of_append {c : Column} {older : List Lot} {newest : Lot} (h : c.lots = older ++ [newest]) (n : Nat) :
    c.addNewest n =
      { c with
        lots := older ++ [{ newest with tonnes := min (newest.tonnes + n) 65535 }]
        unverified := c.unverified || decide (65535 < newest.tonnes + n) } := by
  have last : c.lots[c.lots.length - 1]? = some newest := by simp [h]
  rw [Column.addNewest, addAt_of_lot last]
  simp [h]

/-! ### Appends (R5) -/

/-- A lot of the column carries the number. -/
def numberTaken (lots : List Lot) (n : Nat) : Prop := ∃ l ∈ lots, l.number = n

/-- The search passes taken numbers only, and where it stops before its fuel is spent the number is free. -/
theorem freeNumber_spec (lots : List Lot) (fuel n : Nat) (hn : n < 65536) :
    ∃ d ≤ fuel, freeNumber lots fuel n = (n + d) % 65536 ∧
      (∀ e < d, numberTaken lots ((n + e) % 65536)) ∧
      (d < fuel → ¬ numberTaken lots ((n + d) % 65536)) := by
  have own : (n + 0) % 65536 = n := Nat.mod_eq_of_lt hn
  induction fuel generalizing n with
  | zero => exact ⟨0, Nat.le_refl 0, own.symm, by simp, by simp⟩
  | succ fuel ih =>
    by_cases taken : numberTaken lots n
    · have next : ∀ e, ((n + 1) % 65536 + e) % 65536 = (n + (e + 1)) % 65536 := by omega
      have bound : (n + 1) % 65536 < 65536 := Nat.mod_lt _ (by decide)
      obtain ⟨d, hd, found, passed, stopped⟩ := ih _ bound (Nat.mod_eq_of_lt bound)
      simp only [next] at found passed stopped
      refine ⟨d + 1, by omega, ?_, ?_, fun h => stopped (by omega)⟩
      · have goesOn : (lots.any fun l => decide (l.number = n)) = true := by simpa [numberTaken] using taken
        rw [freeNumber, if_pos goesOn, found]
      · intro e he
        cases e with
        | zero => rwa [own]
        | succ e => exact passed e (by omega)
    · have stops : ¬ (lots.any fun l => decide (l.number = n)) = true := by simpa [numberTaken] using taken
      refine ⟨0, Nat.zero_le _, ?_, by simp, fun _ => by rwa [own]⟩
      rw [freeNumber, if_neg stops, own]

/-- Fewer than 65536 lots cannot carry one number more, from any on, than there are lots. -/
theorem not_all_numbers_taken (lots : List Lot) (n : Nat) (hlots : lots.length < 65536) :
    ¬ ∀ e ≤ lots.length, numberTaken lots ((n + e) % 65536) := by
  intro taken
  have into : (List.range (lots.length + 1)).map (fun e => (n + e) % 65536) ⊆ lots.map Lot.number := by
    intro m hm
    obtain ⟨e, he, rfl⟩ := List.mem_map.mp hm
    exact List.mem_map.mpr (taken e (Nat.lt_succ_iff.mp (List.mem_range.mp he)))
  have distinct : ((List.range (lots.length + 1)).map fun e => (n + e) % 65536).Nodup := by
    refine List.pairwise_map.mpr (List.nodup_range.imp_of_mem fun {a b} ha hb differ same => ?_)
    have boundA := List.mem_range.mp ha
    have boundB := List.mem_range.mp hb
    omega
  have count := distinct.length_le_of_subset into
  rw [List.length_map, List.length_map, List.length_range] at count
  exact Nat.not_succ_le_self _ count

/-- The search over as many numbers as there are lots ends at the first free one (R5). -/
theorem freeNumber_is_first_free (lots : List Lot) (n : Nat) (hlots : lots.length < 65536) (hn : n < 65536) :
    ∃ d ≤ lots.length, freeNumber lots lots.length n = (n + d) % 65536 ∧
      (∀ e < d, numberTaken lots ((n + e) % 65536)) ∧ ¬ numberTaken lots ((n + d) % 65536) := by
  obtain ⟨d, hd, found, passed, stopped⟩ := freeNumber_spec lots lots.length n hn
  refine ⟨d, hd, found, passed, fun taken => ?_⟩
  obtain rfl | early := Nat.eq_or_lt_of_le hd
  · refine not_all_numbers_taken lots n hlots fun e he => ?_
    obtain rfl | he := Nat.eq_or_lt_of_le he
    · exact taken
    · exact passed e he
  · exact stopped early taken

theorem append_newest_tonnes (c : Column) (kind : LotKind) (source grade n : Nat) (held : Option Nat) :
    ((c.append kind source grade n held).lots.getLast?).map Lot.tonnes = some n := by
  simp [Column.append]

theorem append_takes_first_free (c : Column) (kind : LotKind) (source grade tonnes : Nat) (held : Option Nat)
    (hlots : c.lots.length < 65536) (hnext : c.nextLot < 65536) :
    ∃ d ≤ c.lots.length, (∀ e < d, numberTaken c.lots ((c.nextLot + e) % 65536)) ∧
      ¬ numberTaken c.lots ((c.nextLot + d) % 65536) ∧
      c.append kind source grade tonnes held =
        { c with
          lots := c.lots ++
            [{ number := (c.nextLot + d) % 65536, kind := kind, source := source, gradeClass := grade
               tonnes := tonnes, held := held }]
          nextLot := (c.nextLot + d + 1) % 65536 } := by
  obtain ⟨d, hd, found, passed, free⟩ := freeNumber_is_first_free c.lots c.nextLot hlots hnext
  refine ⟨d, hd, passed, free, ?_⟩
  rw [Column.append, found, Nat.mod_add_mod]

/-- Settles O2: additions by whether the sum exceeds 65535, appends by the first free lot number, which stands within as many places as there are lots. -/
theorem additionsAndAppendsToTheColumn : Obligations.AdditionsAndAppendsToTheColumn := by
  refine ⟨fun c i n l h => ⟨addAt_of_sum_le h, addAt_of_lt_sum h, fun _ _ _ _ => append_newest_tonnes ..⟩,
    fun c n => ⟨fun h => addNewest_of_nil h n, fun _ _ h => addNewest_of_append h n⟩, ?_⟩
  intro c kind source grade tonnes held hlots hnext
  obtain ⟨d, hd, passed, free, appended⟩ :=
    append_takes_first_free c kind source grade tonnes held (by omega) (by omega)
  exact ⟨d, hd, passed, fun l hl number => free ⟨l, hl, number⟩, appended⟩

end Sys2Proof.Machine
end

section
/-! PROOFS. Claims on the pass: the grant conditions of the purposes (R30), alone and within a scan (R38). -/

namespace Sys2Proof.Machine

/-! ### Held rows and LEVEL rows -/

theorem held_eq_false_iff (t : ClaimTable) (row : Row) : t.held row = false ↔ t.get row = none :=
  Option.isSome_eq_false_iff.trans Option.isNone_iff_eq_none

theorem mem_allRows (row : Row) : row ∈ allRows := by cases row <;> decide

/-- The row LEVEL-k stands at level k. -/
theorem rowLevel_of_levelRow {k : Nat} {row : Row} (h : levelRow k = some row) : rowLevel row = k := by
  match k, h with
  | 1, rfl | 2, rfl | 3, rfl | 4, rfl | 5, rfl | 6, rfl => rfl
  | 0, h => cases h
  | k + 7, h =>
    rw [levelRow, if_neg (by omega)] at h
    cases h

theorem openAt_eq_false_iff (c : Column) (level : Nat) :
    c.openAt level = false ↔ ∀ l ∈ c.lots, l.source = level → l.held = none := by
  simp only [Column.openAt, List.any_eq_false, Bool.and_eq_true, decide_eq_true_eq, and_comm, not_and,
    Bool.not_eq_true, Option.isSome_eq_false_iff, Option.isNone_iff_eq_none]

/-! ### The grant condition of each purpose (R30) -/

theorem levelRoom_iff (c : Settings) (r : Record) (row : Row) :
    r.levelRoom c row = true ↔
      r.column.hung = none ∧
        r.column.total + r.table.reserved + c.tipReservation.toNat ≤ c.choke (rowLevel row) ∧
        r.column.lots.length + r.table.heldLevels + 1 ≤ 32 ∧ r.table.get .access = none := by
  simp [Record.levelRoom, held_eq_false_iff, and_assoc]

theorem grantable_brk_iff (c : Settings) (r : Record) (row : Row) :
    r.grantable c row .brk = true ↔ r.table.get row = none ∧ r.levelRoom c row = true := by
  simp [Record.grantable, held_eq_false_iff]

/-- TIP asks what BREAK asks, and that no lot of the level is OPEN. -/
theorem grantable_tip_iff (c : Settings) (r : Record) (row : Row) :
    r.grantable c row .tip = true ↔
      r.grantable c row .brk = true ∧ r.column.openAt (rowLevel row) = false := by
  simp [Record.grantable, and_assoc]

theorem grantable_draw_iff (c : Settings) (r : Record) (row : Row) :
    r.grantable c row .draw = true ↔
      r.table.get row = none ∧ r.column.hung = none ∧ r.table.get .access = none ∧
        r.effectiveCushion c < r.column.total := by
  simp [Record.grantable, held_eq_false_iff, and_assoc]

/-- ACCESS asks for the whole table: its own row and the other eight are free. -/
theorem grantable_access_iff (c : Settings) (r : Record) :
    r.grantable c .access .access = true ↔ ∀ row, r.table.get row = none := by
  simp only [Record.grantable, Bool.and_eq_true, Bool.not_eq_true', held_eq_false_iff, List.all_eq_true,
    Bool.or_eq_true, decide_eq_true_eq]
  constructor
  · rintro ⟨own, others⟩ row
    obtain rfl | free := others row (mem_allRows row)
    · exact own
    · exact free
  · exact fun free => ⟨free .access, fun row _ => .inr (free row)⟩

/-- At a CHOKED level total and reserved leave no room for a reservation of a tonne or more (R10). -/
theorem not_levelRoom_of_choked {c : Settings} {r : Record} {row : Row}
    (choked : r.choked c (rowLevel row) = true) (reservation : 1 ≤ c.tipReservation.toNat) :
    ¬ r.levelRoom c row = true := by
  intro room
  obtain ⟨-, -, reached⟩ := of_decide_eq_true choked
  obtain ⟨-, below, -⟩ := (levelRoom_iff c r row).mp room
  omega

/-! ### The grant condition within a scan (R38) -/

/-- The wait queue has no part in the grant condition. -/
theorem grantable_queue (c : Settings) (r : Record) (queue : List WaitEntry) (row : Row) (p : Purpose) :
    Record.grantable c { r with queue := queue } row p = r.grantable c row p := rfl

theorem no_conflict_iff (older : List WaitEntry) (row : Row) :
    (!older.any fun o => rowsConflict o.row row) = true ↔ ∀ o ∈ older, rowsConflict o.row row = false := by
  simp

/-- One place of the walk: granted on the record as the walk has left it, or passed over and older than the rest. -/
theorem scanWalk_cons (c : Settings) (r : Record) (older : List WaitEntry) (e : WaitEntry) (rest : List WaitEntry)
    (t : ClaimTable) :
    scanWalk c r.column older (e :: rest) t =
      if Record.grantable c { r with table := t } e.row e.purpose = true ∧
          ∀ o ∈ older, rowsConflict o.row e.row = false then
        { scanWalk c r.column older rest (t.put e.row (some (newGrant c e.station e.purpose e.reservation))) with
          granted := e ::
            (scanWalk c r.column older rest
              (t.put e.row (some (newGrant c e.station e.purpose e.reservation)))).granted }
      else scanWalk c r.column (older ++ [e]) rest t := by
  rw [scanWalk, grantable_queue c { r with table := t } []]
  simp only [Bool.and_eq_true, no_conflict_iff]

/-- Settles O10: each purpose by its own condition, a CHOKED level by its want of room, a scan by its walk's first place. -/
theorem grantConditions : Obligations.GrantConditions := by
  refine fun c r => ⟨fun k row _ _ hrow => ?_, fun row _ => grantable_draw_iff c r row, grantable_access_iff c r,
    scanWalk_cons c r⟩
  obtain rfl := rowLevel_of_levelRow hrow
  refine ⟨?_, ?_, fun choked reservation => ?_⟩
  · rw [grantable_brk_iff, levelRoom_iff]
  · rw [grantable_tip_iff, openAt_eq_false_iff]
  · have noBreak : ¬ r.grantable c row .brk = true := fun grantable =>
      not_levelRoom_of_choked choked reservation ((grantable_brk_iff c r row).mp grantable).2
    have noTip : ¬ r.grantable c row .tip = true := fun grantable =>
      noBreak ((grantable_tip_iff c r row).mp grantable).1
    exact ⟨Bool.eq_false_iff.mpr noTip, Bool.eq_false_iff.mpr noBreak⟩

end Sys2Proof.Machine
end
